-- ==== Sys2Proof/Word.lean ====
section
/-! DEFINITION. The word types of the core: the byte and the 16-bit address (00_scope R6, R8). -/

namespace Sys2Proof

/-- A byte: 8 bits, bit 0 the least significant (R8). -/
abbrev Byte := BitVec 8

/-- An address or PC value: 16 bits (R8). -/
abbrev Addr := BitVec 16

end Sys2Proof
end

