-- ==== Sys2Proof/Syntax.lean ====
section
/-! DEFINITION. The instructions: the 13 mode ids (30_encoding R101), the 77 mnemonics (R110), operands by mode (R102, R103), and
`Instr`, one constructor for each of the 256 rows of spec/opcode_table.json (R105, R109). -/

namespace Sys2Proof

/-- The addressing-mode ids (R101). -/
inductive Mode where
  | imp
  | acc
  | imm
  | zp
  | zpx
  | zpy
  | abs
  | absx
  | absy
  | ind
  | izx
  | izy
  | rel
  deriving DecidableEq, Repr

/-- The operation handlers by name (R110). -/
inductive Mnemonic where
  | adc
  | alr
  | anc
  | and
  | ane
  | arr
  | asl
  | bcc
  | bcs
  | beq
  | bit
  | bmi
  | bne
  | bpl
  | brk
  | bvc
  | bvs
  | clc
  | cld
  | cli
  | clv
  | cmp
  | cpx
  | cpy
  | dcp
  | dec
  | dex
  | dey
  | eor
  | inc
  | inx
  | iny
  | isc
  | jam
  | jmp
  | jsr
  | las
  | lax
  | lda
  | ldx
  | ldy
  | lsr
  | lxa
  | nop
  | ora
  | pha
  | php
  | pla
  | plp
  | rla
  | rol
  | ror
  | rra
  | rti
  | rts
  | sax
  | sbc
  | sbx
  | sec
  | sed
  | sei
  | sha
  | shx
  | shy
  | slo
  | sre
  | sta
  | stx
  | sty
  | tas
  | tax
  | tay
  | tsx
  | txa
  | txs
  | tya
  | usbc
  deriving DecidableEq, Repr

/-- An operand, by mode: imm8, zp8 and offset8 are a byte, a 16-bit operand is `w16(h, l)` (R102, R103, R104). -/
inductive Operand where
  | imp
  | acc
  | imm (v : Byte)
  | zp (b : Byte)
  | zpx (b : Byte)
  | zpy (b : Byte)
  | abs (w : Addr)
  | absx (w : Addr)
  | absy (w : Addr)
  | ind (w : Addr)
  | izx (b : Byte)
  | izy (b : Byte)
  | rel (o : Byte)
  deriving DecidableEq, Repr

/-- The mode of an operand. -/
def Operand.mode : Operand → Mode
  | .imp => .imp
  | .acc => .acc
  | .imm _ => .imm
  | .zp _ => .zp
  | .zpx _ => .zpx
  | .zpy _ => .zpy
  | .abs _ => .abs
  | .absx _ => .absx
  | .absy _ => .absy
  | .ind _ => .ind
  | .izx _ => .izx
  | .izy _ => .izy
  | .rel _ => .rel

/-- An instruction as an assembler names it: a mnemonic and an operand (R107). -/
structure Asm where
  mnemonic : Mnemonic
  operand : Operand
  deriving DecidableEq, Repr

/-- The instructions.  A name is the mnemonic and the mode, with the opcode byte where the table has more than one such row. -/
inductive Instr where
  -- ADC (R171)
  | adcImm (v : Byte)
  | adcZp (b : Byte)
  | adcZpx (b : Byte)
  | adcAbs (w : Addr)
  | adcAbsx (w : Addr)
  | adcAbsy (w : Addr)
  | adcIzx (b : Byte)
  | adcIzy (b : Byte)
  -- SBC (R172)
  | sbcImm (v : Byte)
  | sbcZp (b : Byte)
  | sbcZpx (b : Byte)
  | sbcAbs (w : Addr)
  | sbcAbsx (w : Addr)
  | sbcAbsy (w : Addr)
  | sbcIzx (b : Byte)
  | sbcIzy (b : Byte)
  -- AND (R173)
  | andImm (v : Byte)
  | andZp (b : Byte)
  | andZpx (b : Byte)
  | andAbs (w : Addr)
  | andAbsx (w : Addr)
  | andAbsy (w : Addr)
  | andIzx (b : Byte)
  | andIzy (b : Byte)
  -- ORA (R174)
  | oraImm (v : Byte)
  | oraZp (b : Byte)
  | oraZpx (b : Byte)
  | oraAbs (w : Addr)
  | oraAbsx (w : Addr)
  | oraAbsy (w : Addr)
  | oraIzx (b : Byte)
  | oraIzy (b : Byte)
  -- EOR (R175)
  | eorImm (v : Byte)
  | eorZp (b : Byte)
  | eorZpx (b : Byte)
  | eorAbs (w : Addr)
  | eorAbsx (w : Addr)
  | eorAbsy (w : Addr)
  | eorIzx (b : Byte)
  | eorIzy (b : Byte)
  -- BIT (R176)
  | bitZp (b : Byte)
  | bitAbs (w : Addr)
  -- ASL (R191)
  | aslAcc
  | aslZp (b : Byte)
  | aslZpx (b : Byte)
  | aslAbs (w : Addr)
  | aslAbsx (w : Addr)
  -- LSR (R192)
  | lsrAcc
  | lsrZp (b : Byte)
  | lsrZpx (b : Byte)
  | lsrAbs (w : Addr)
  | lsrAbsx (w : Addr)
  -- ROL (R193)
  | rolAcc
  | rolZp (b : Byte)
  | rolZpx (b : Byte)
  | rolAbs (w : Addr)
  | rolAbsx (w : Addr)
  -- ROR (R194)
  | rorAcc
  | rorZp (b : Byte)
  | rorZpx (b : Byte)
  | rorAbs (w : Addr)
  | rorAbsx (w : Addr)
  -- CMP (R201)
  | cmpImm (v : Byte)
  | cmpZp (b : Byte)
  | cmpZpx (b : Byte)
  | cmpAbs (w : Addr)
  | cmpAbsx (w : Addr)
  | cmpAbsy (w : Addr)
  | cmpIzx (b : Byte)
  | cmpIzy (b : Byte)
  -- CPX (R202)
  | cpxImm (v : Byte)
  | cpxZp (b : Byte)
  | cpxAbs (w : Addr)
  -- CPY (R203)
  | cpyImm (v : Byte)
  | cpyZp (b : Byte)
  | cpyAbs (w : Addr)
  -- INC (R204)
  | incZp (b : Byte)
  | incZpx (b : Byte)
  | incAbs (w : Addr)
  | incAbsx (w : Addr)
  -- DEC (R205)
  | decZp (b : Byte)
  | decZpx (b : Byte)
  | decAbs (w : Addr)
  | decAbsx (w : Addr)
  -- INX (R206)
  | inx
  -- INY (R207)
  | iny
  -- DEX (R208)
  | dex
  -- DEY (R209)
  | dey
  -- BCC (R221)
  | bcc (o : Byte)
  -- BCS (R222)
  | bcs (o : Byte)
  -- BEQ (R223)
  | beq (o : Byte)
  -- BNE (R224)
  | bne (o : Byte)
  -- BMI (R225)
  | bmi (o : Byte)
  -- BPL (R226)
  | bpl (o : Byte)
  -- BVC (R227)
  | bvc (o : Byte)
  -- BVS (R228)
  | bvs (o : Byte)
  -- PHA (R242)
  | pha
  -- PHP (R243)
  | php
  -- PLA (R244)
  | pla
  -- PLP (R245)
  | plp
  -- JSR (R246)
  | jsrAbs (w : Addr)
  -- RTS (R247)
  | rts
  -- RTI (R248)
  | rti
  -- BRK (R249)
  | brk
  -- JMP (R250)
  | jmpAbs (w : Addr)
  | jmpInd (w : Addr)
  -- TAX (R260)
  | tax
  -- TAY (R261)
  | tay
  -- TXA (R262)
  | txa
  -- TYA (R263)
  | tya
  -- TSX (R264)
  | tsx
  -- TXS (R265)
  | txs
  -- LDA (R266)
  | ldaImm (v : Byte)
  | ldaZp (b : Byte)
  | ldaZpx (b : Byte)
  | ldaAbs (w : Addr)
  | ldaAbsx (w : Addr)
  | ldaAbsy (w : Addr)
  | ldaIzx (b : Byte)
  | ldaIzy (b : Byte)
  -- LDX (R267)
  | ldxImm (v : Byte)
  | ldxZp (b : Byte)
  | ldxZpy (b : Byte)
  | ldxAbs (w : Addr)
  | ldxAbsy (w : Addr)
  -- LDY (R268)
  | ldyImm (v : Byte)
  | ldyZp (b : Byte)
  | ldyZpx (b : Byte)
  | ldyAbs (w : Addr)
  | ldyAbsx (w : Addr)
  -- STA (R269)
  | staZp (b : Byte)
  | staZpx (b : Byte)
  | staAbs (w : Addr)
  | staAbsx (w : Addr)
  | staAbsy (w : Addr)
  | staIzx (b : Byte)
  | staIzy (b : Byte)
  -- STX (R270)
  | stxZp (b : Byte)
  | stxZpy (b : Byte)
  | stxAbs (w : Addr)
  -- STY (R271)
  | styZp (b : Byte)
  | styZpx (b : Byte)
  | styAbs (w : Addr)
  -- CLC (R280)
  | clc
  -- SEC (R281)
  | sec
  -- CLI (R282)
  | cli
  -- SEI (R283)
  | sei
  -- CLD (R284)
  | cld
  -- SED (R285)
  | sed
  -- CLV (R286)
  | clv
  -- NOP (R287)
  | nopImp1A
  | nopImp3A
  | nopImp5A
  | nopImp7A
  | nopImpDA
  | nopImpEA
  | nopImpFA
  | nopImm80 (v : Byte)
  | nopImm82 (v : Byte)
  | nopImm89 (v : Byte)
  | nopImmC2 (v : Byte)
  | nopImmE2 (v : Byte)
  | nopZp04 (b : Byte)
  | nopZp44 (b : Byte)
  | nopZp64 (b : Byte)
  | nopZpx14 (b : Byte)
  | nopZpx34 (b : Byte)
  | nopZpx54 (b : Byte)
  | nopZpx74 (b : Byte)
  | nopZpxD4 (b : Byte)
  | nopZpxF4 (b : Byte)
  | nopAbs0C (w : Addr)
  | nopAbsx1C (w : Addr)
  | nopAbsx3C (w : Addr)
  | nopAbsx5C (w : Addr)
  | nopAbsx7C (w : Addr)
  | nopAbsxDC (w : Addr)
  | nopAbsxFC (w : Addr)
  -- ALR (R301)
  | alrImm (v : Byte)
  -- ANC (R302)
  | ancImm0B (v : Byte)
  | ancImm2B (v : Byte)
  -- ARR (R303)
  | arrImm (v : Byte)
  -- DCP (R304)
  | dcpZp (b : Byte)
  | dcpZpx (b : Byte)
  | dcpAbs (w : Addr)
  | dcpAbsx (w : Addr)
  | dcpAbsy (w : Addr)
  | dcpIzx (b : Byte)
  | dcpIzy (b : Byte)
  -- ISC (R305)
  | iscZp (b : Byte)
  | iscZpx (b : Byte)
  | iscAbs (w : Addr)
  | iscAbsx (w : Addr)
  | iscAbsy (w : Addr)
  | iscIzx (b : Byte)
  | iscIzy (b : Byte)
  -- LAS (R306)
  | lasAbsy (w : Addr)
  -- LAX (R307)
  | laxZp (b : Byte)
  | laxZpy (b : Byte)
  | laxAbs (w : Addr)
  | laxAbsy (w : Addr)
  | laxIzx (b : Byte)
  | laxIzy (b : Byte)
  -- LXA (R308)
  | lxaImm (v : Byte)
  -- RLA (R309)
  | rlaZp (b : Byte)
  | rlaZpx (b : Byte)
  | rlaAbs (w : Addr)
  | rlaAbsx (w : Addr)
  | rlaAbsy (w : Addr)
  | rlaIzx (b : Byte)
  | rlaIzy (b : Byte)
  -- RRA (R310)
  | rraZp (b : Byte)
  | rraZpx (b : Byte)
  | rraAbs (w : Addr)
  | rraAbsx (w : Addr)
  | rraAbsy (w : Addr)
  | rraIzx (b : Byte)
  | rraIzy (b : Byte)
  -- SAX (R311)
  | saxZp (b : Byte)
  | saxZpy (b : Byte)
  | saxAbs (w : Addr)
  | saxIzx (b : Byte)
  -- SBX (R312)
  | sbxImm (v : Byte)
  -- SHA (R313)
  | shaAbsy (w : Addr)
  | shaIzy (b : Byte)
  -- SHX (R314)
  | shxAbsy (w : Addr)
  -- SHY (R315)
  | shyAbsx (w : Addr)
  -- SLO (R316)
  | sloZp (b : Byte)
  | sloZpx (b : Byte)
  | sloAbs (w : Addr)
  | sloAbsx (w : Addr)
  | sloAbsy (w : Addr)
  | sloIzx (b : Byte)
  | sloIzy (b : Byte)
  -- SRE (R317)
  | sreZp (b : Byte)
  | sreZpx (b : Byte)
  | sreAbs (w : Addr)
  | sreAbsx (w : Addr)
  | sreAbsy (w : Addr)
  | sreIzx (b : Byte)
  | sreIzy (b : Byte)
  -- TAS (R318)
  | tasAbsy (w : Addr)
  -- ANE (R319)
  | aneImm (v : Byte)
  -- USBC (R320)
  | usbcImm (v : Byte)
  -- JAM (R321)
  | jam02
  | jam12
  | jam22
  | jam32
  | jam42
  | jam52
  | jam62
  | jam72
  | jam92
  | jamB2
  | jamD2
  | jamF2
  deriving DecidableEq, Repr

/-- The mnemonic and operand of an instruction. -/
def Instr.asm : Instr → Asm
  | .adcImm v => ⟨.adc, .imm v⟩
  | .adcZp b => ⟨.adc, .zp b⟩
  | .adcZpx b => ⟨.adc, .zpx b⟩
  | .adcAbs w => ⟨.adc, .abs w⟩
  | .adcAbsx w => ⟨.adc, .absx w⟩
  | .adcAbsy w => ⟨.adc, .absy w⟩
  | .adcIzx b => ⟨.adc, .izx b⟩
  | .adcIzy b => ⟨.adc, .izy b⟩
  | .sbcImm v => ⟨.sbc, .imm v⟩
  | .sbcZp b => ⟨.sbc, .zp b⟩
  | .sbcZpx b => ⟨.sbc, .zpx b⟩
  | .sbcAbs w => ⟨.sbc, .abs w⟩
  | .sbcAbsx w => ⟨.sbc, .absx w⟩
  | .sbcAbsy w => ⟨.sbc, .absy w⟩
  | .sbcIzx b => ⟨.sbc, .izx b⟩
  | .sbcIzy b => ⟨.sbc, .izy b⟩
  | .andImm v => ⟨.and, .imm v⟩
  | .andZp b => ⟨.and, .zp b⟩
  | .andZpx b => ⟨.and, .zpx b⟩
  | .andAbs w => ⟨.and, .abs w⟩
  | .andAbsx w => ⟨.and, .absx w⟩
  | .andAbsy w => ⟨.and, .absy w⟩
  | .andIzx b => ⟨.and, .izx b⟩
  | .andIzy b => ⟨.and, .izy b⟩
  | .oraImm v => ⟨.ora, .imm v⟩
  | .oraZp b => ⟨.ora, .zp b⟩
  | .oraZpx b => ⟨.ora, .zpx b⟩
  | .oraAbs w => ⟨.ora, .abs w⟩
  | .oraAbsx w => ⟨.ora, .absx w⟩
  | .oraAbsy w => ⟨.ora, .absy w⟩
  | .oraIzx b => ⟨.ora, .izx b⟩
  | .oraIzy b => ⟨.ora, .izy b⟩
  | .eorImm v => ⟨.eor, .imm v⟩
  | .eorZp b => ⟨.eor, .zp b⟩
  | .eorZpx b => ⟨.eor, .zpx b⟩
  | .eorAbs w => ⟨.eor, .abs w⟩
  | .eorAbsx w => ⟨.eor, .absx w⟩
  | .eorAbsy w => ⟨.eor, .absy w⟩
  | .eorIzx b => ⟨.eor, .izx b⟩
  | .eorIzy b => ⟨.eor, .izy b⟩
  | .bitZp b => ⟨.bit, .zp b⟩
  | .bitAbs w => ⟨.bit, .abs w⟩
  | .aslAcc => ⟨.asl, .acc⟩
  | .aslZp b => ⟨.asl, .zp b⟩
  | .aslZpx b => ⟨.asl, .zpx b⟩
  | .aslAbs w => ⟨.asl, .abs w⟩
  | .aslAbsx w => ⟨.asl, .absx w⟩
  | .lsrAcc => ⟨.lsr, .acc⟩
  | .lsrZp b => ⟨.lsr, .zp b⟩
  | .lsrZpx b => ⟨.lsr, .zpx b⟩
  | .lsrAbs w => ⟨.lsr, .abs w⟩
  | .lsrAbsx w => ⟨.lsr, .absx w⟩
  | .rolAcc => ⟨.rol, .acc⟩
  | .rolZp b => ⟨.rol, .zp b⟩
  | .rolZpx b => ⟨.rol, .zpx b⟩
  | .rolAbs w => ⟨.rol, .abs w⟩
  | .rolAbsx w => ⟨.rol, .absx w⟩
  | .rorAcc => ⟨.ror, .acc⟩
  | .rorZp b => ⟨.ror, .zp b⟩
  | .rorZpx b => ⟨.ror, .zpx b⟩
  | .rorAbs w => ⟨.ror, .abs w⟩
  | .rorAbsx w => ⟨.ror, .absx w⟩
  | .cmpImm v => ⟨.cmp, .imm v⟩
  | .cmpZp b => ⟨.cmp, .zp b⟩
  | .cmpZpx b => ⟨.cmp, .zpx b⟩
  | .cmpAbs w => ⟨.cmp, .abs w⟩
  | .cmpAbsx w => ⟨.cmp, .absx w⟩
  | .cmpAbsy w => ⟨.cmp, .absy w⟩
  | .cmpIzx b => ⟨.cmp, .izx b⟩
  | .cmpIzy b => ⟨.cmp, .izy b⟩
  | .cpxImm v => ⟨.cpx, .imm v⟩
  | .cpxZp b => ⟨.cpx, .zp b⟩
  | .cpxAbs w => ⟨.cpx, .abs w⟩
  | .cpyImm v => ⟨.cpy, .imm v⟩
  | .cpyZp b => ⟨.cpy, .zp b⟩
  | .cpyAbs w => ⟨.cpy, .abs w⟩
  | .incZp b => ⟨.inc, .zp b⟩
  | .incZpx b => ⟨.inc, .zpx b⟩
  | .incAbs w => ⟨.inc, .abs w⟩
  | .incAbsx w => ⟨.inc, .absx w⟩
  | .decZp b => ⟨.dec, .zp b⟩
  | .decZpx b => ⟨.dec, .zpx b⟩
  | .decAbs w => ⟨.dec, .abs w⟩
  | .decAbsx w => ⟨.dec, .absx w⟩
  | .inx => ⟨.inx, .imp⟩
  | .iny => ⟨.iny, .imp⟩
  | .dex => ⟨.dex, .imp⟩
  | .dey => ⟨.dey, .imp⟩
  | .bcc o => ⟨.bcc, .rel o⟩
  | .bcs o => ⟨.bcs, .rel o⟩
  | .beq o => ⟨.beq, .rel o⟩
  | .bne o => ⟨.bne, .rel o⟩
  | .bmi o => ⟨.bmi, .rel o⟩
  | .bpl o => ⟨.bpl, .rel o⟩
  | .bvc o => ⟨.bvc, .rel o⟩
  | .bvs o => ⟨.bvs, .rel o⟩
  | .pha => ⟨.pha, .imp⟩
  | .php => ⟨.php, .imp⟩
  | .pla => ⟨.pla, .imp⟩
  | .plp => ⟨.plp, .imp⟩
  | .jsrAbs w => ⟨.jsr, .abs w⟩
  | .rts => ⟨.rts, .imp⟩
  | .rti => ⟨.rti, .imp⟩
  | .brk => ⟨.brk, .imp⟩
  | .jmpAbs w => ⟨.jmp, .abs w⟩
  | .jmpInd w => ⟨.jmp, .ind w⟩
  | .tax => ⟨.tax, .imp⟩
  | .tay => ⟨.tay, .imp⟩
  | .txa => ⟨.txa, .imp⟩
  | .tya => ⟨.tya, .imp⟩
  | .tsx => ⟨.tsx, .imp⟩
  | .txs => ⟨.txs, .imp⟩
  | .ldaImm v => ⟨.lda, .imm v⟩
  | .ldaZp b => ⟨.lda, .zp b⟩
  | .ldaZpx b => ⟨.lda, .zpx b⟩
  | .ldaAbs w => ⟨.lda, .abs w⟩
  | .ldaAbsx w => ⟨.lda, .absx w⟩
  | .ldaAbsy w => ⟨.lda, .absy w⟩
  | .ldaIzx b => ⟨.lda, .izx b⟩
  | .ldaIzy b => ⟨.lda, .izy b⟩
  | .ldxImm v => ⟨.ldx, .imm v⟩
  | .ldxZp b => ⟨.ldx, .zp b⟩
  | .ldxZpy b => ⟨.ldx, .zpy b⟩
  | .ldxAbs w => ⟨.ldx, .abs w⟩
  | .ldxAbsy w => ⟨.ldx, .absy w⟩
  | .ldyImm v => ⟨.ldy, .imm v⟩
  | .ldyZp b => ⟨.ldy, .zp b⟩
  | .ldyZpx b => ⟨.ldy, .zpx b⟩
  | .ldyAbs w => ⟨.ldy, .abs w⟩
  | .ldyAbsx w => ⟨.ldy, .absx w⟩
  | .staZp b => ⟨.sta, .zp b⟩
  | .staZpx b => ⟨.sta, .zpx b⟩
  | .staAbs w => ⟨.sta, .abs w⟩
  | .staAbsx w => ⟨.sta, .absx w⟩
  | .staAbsy w => ⟨.sta, .absy w⟩
  | .staIzx b => ⟨.sta, .izx b⟩
  | .staIzy b => ⟨.sta, .izy b⟩
  | .stxZp b => ⟨.stx, .zp b⟩
  | .stxZpy b => ⟨.stx, .zpy b⟩
  | .stxAbs w => ⟨.stx, .abs w⟩
  | .styZp b => ⟨.sty, .zp b⟩
  | .styZpx b => ⟨.sty, .zpx b⟩
  | .styAbs w => ⟨.sty, .abs w⟩
  | .clc => ⟨.clc, .imp⟩
  | .sec => ⟨.sec, .imp⟩
  | .cli => ⟨.cli, .imp⟩
  | .sei => ⟨.sei, .imp⟩
  | .cld => ⟨.cld, .imp⟩
  | .sed => ⟨.sed, .imp⟩
  | .clv => ⟨.clv, .imp⟩
  | .nopImp1A => ⟨.nop, .imp⟩
  | .nopImp3A => ⟨.nop, .imp⟩
  | .nopImp5A => ⟨.nop, .imp⟩
  | .nopImp7A => ⟨.nop, .imp⟩
  | .nopImpDA => ⟨.nop, .imp⟩
  | .nopImpEA => ⟨.nop, .imp⟩
  | .nopImpFA => ⟨.nop, .imp⟩
  | .nopImm80 v => ⟨.nop, .imm v⟩
  | .nopImm82 v => ⟨.nop, .imm v⟩
  | .nopImm89 v => ⟨.nop, .imm v⟩
  | .nopImmC2 v => ⟨.nop, .imm v⟩
  | .nopImmE2 v => ⟨.nop, .imm v⟩
  | .nopZp04 b => ⟨.nop, .zp b⟩
  | .nopZp44 b => ⟨.nop, .zp b⟩
  | .nopZp64 b => ⟨.nop, .zp b⟩
  | .nopZpx14 b => ⟨.nop, .zpx b⟩
  | .nopZpx34 b => ⟨.nop, .zpx b⟩
  | .nopZpx54 b => ⟨.nop, .zpx b⟩
  | .nopZpx74 b => ⟨.nop, .zpx b⟩
  | .nopZpxD4 b => ⟨.nop, .zpx b⟩
  | .nopZpxF4 b => ⟨.nop, .zpx b⟩
  | .nopAbs0C w => ⟨.nop, .abs w⟩
  | .nopAbsx1C w => ⟨.nop, .absx w⟩
  | .nopAbsx3C w => ⟨.nop, .absx w⟩
  | .nopAbsx5C w => ⟨.nop, .absx w⟩
  | .nopAbsx7C w => ⟨.nop, .absx w⟩
  | .nopAbsxDC w => ⟨.nop, .absx w⟩
  | .nopAbsxFC w => ⟨.nop, .absx w⟩
  | .alrImm v => ⟨.alr, .imm v⟩
  | .ancImm0B v => ⟨.anc, .imm v⟩
  | .ancImm2B v => ⟨.anc, .imm v⟩
  | .arrImm v => ⟨.arr, .imm v⟩
  | .dcpZp b => ⟨.dcp, .zp b⟩
  | .dcpZpx b => ⟨.dcp, .zpx b⟩
  | .dcpAbs w => ⟨.dcp, .abs w⟩
  | .dcpAbsx w => ⟨.dcp, .absx w⟩
  | .dcpAbsy w => ⟨.dcp, .absy w⟩
  | .dcpIzx b => ⟨.dcp, .izx b⟩
  | .dcpIzy b => ⟨.dcp, .izy b⟩
  | .iscZp b => ⟨.isc, .zp b⟩
  | .iscZpx b => ⟨.isc, .zpx b⟩
  | .iscAbs w => ⟨.isc, .abs w⟩
  | .iscAbsx w => ⟨.isc, .absx w⟩
  | .iscAbsy w => ⟨.isc, .absy w⟩
  | .iscIzx b => ⟨.isc, .izx b⟩
  | .iscIzy b => ⟨.isc, .izy b⟩
  | .lasAbsy w => ⟨.las, .absy w⟩
  | .laxZp b => ⟨.lax, .zp b⟩
  | .laxZpy b => ⟨.lax, .zpy b⟩
  | .laxAbs w => ⟨.lax, .abs w⟩
  | .laxAbsy w => ⟨.lax, .absy w⟩
  | .laxIzx b => ⟨.lax, .izx b⟩
  | .laxIzy b => ⟨.lax, .izy b⟩
  | .lxaImm v => ⟨.lxa, .imm v⟩
  | .rlaZp b => ⟨.rla, .zp b⟩
  | .rlaZpx b => ⟨.rla, .zpx b⟩
  | .rlaAbs w => ⟨.rla, .abs w⟩
  | .rlaAbsx w => ⟨.rla, .absx w⟩
  | .rlaAbsy w => ⟨.rla, .absy w⟩
  | .rlaIzx b => ⟨.rla, .izx b⟩
  | .rlaIzy b => ⟨.rla, .izy b⟩
  | .rraZp b => ⟨.rra, .zp b⟩
  | .rraZpx b => ⟨.rra, .zpx b⟩
  | .rraAbs w => ⟨.rra, .abs w⟩
  | .rraAbsx w => ⟨.rra, .absx w⟩
  | .rraAbsy w => ⟨.rra, .absy w⟩
  | .rraIzx b => ⟨.rra, .izx b⟩
  | .rraIzy b => ⟨.rra, .izy b⟩
  | .saxZp b => ⟨.sax, .zp b⟩
  | .saxZpy b => ⟨.sax, .zpy b⟩
  | .saxAbs w => ⟨.sax, .abs w⟩
  | .saxIzx b => ⟨.sax, .izx b⟩
  | .sbxImm v => ⟨.sbx, .imm v⟩
  | .shaAbsy w => ⟨.sha, .absy w⟩
  | .shaIzy b => ⟨.sha, .izy b⟩
  | .shxAbsy w => ⟨.shx, .absy w⟩
  | .shyAbsx w => ⟨.shy, .absx w⟩
  | .sloZp b => ⟨.slo, .zp b⟩
  | .sloZpx b => ⟨.slo, .zpx b⟩
  | .sloAbs w => ⟨.slo, .abs w⟩
  | .sloAbsx w => ⟨.slo, .absx w⟩
  | .sloAbsy w => ⟨.slo, .absy w⟩
  | .sloIzx b => ⟨.slo, .izx b⟩
  | .sloIzy b => ⟨.slo, .izy b⟩
  | .sreZp b => ⟨.sre, .zp b⟩
  | .sreZpx b => ⟨.sre, .zpx b⟩
  | .sreAbs w => ⟨.sre, .abs w⟩
  | .sreAbsx w => ⟨.sre, .absx w⟩
  | .sreAbsy w => ⟨.sre, .absy w⟩
  | .sreIzx b => ⟨.sre, .izx b⟩
  | .sreIzy b => ⟨.sre, .izy b⟩
  | .tasAbsy w => ⟨.tas, .absy w⟩
  | .aneImm v => ⟨.ane, .imm v⟩
  | .usbcImm v => ⟨.usbc, .imm v⟩
  | .jam02 => ⟨.jam, .imp⟩
  | .jam12 => ⟨.jam, .imp⟩
  | .jam22 => ⟨.jam, .imp⟩
  | .jam32 => ⟨.jam, .imp⟩
  | .jam42 => ⟨.jam, .imp⟩
  | .jam52 => ⟨.jam, .imp⟩
  | .jam62 => ⟨.jam, .imp⟩
  | .jam72 => ⟨.jam, .imp⟩
  | .jam92 => ⟨.jam, .imp⟩
  | .jamB2 => ⟨.jam, .imp⟩
  | .jamD2 => ⟨.jam, .imp⟩
  | .jamF2 => ⟨.jam, .imp⟩

/-- The operation handler an instruction names. -/
def Instr.mnemonic (i : Instr) : Mnemonic := i.asm.mnemonic

/-- The operand of an instruction. -/
def Instr.operand (i : Instr) : Operand := i.asm.operand

end Sys2Proof
end

