-- ==== Sys2Proof/WellFormed.lean ====
section
/-! DEFINITION. Which instructions exist.  A constructor of `Instr` carries operands of exactly the width its encoding has, so no
operand is out of range; what can be ill-formed is a mnemonic with a mode the instruction set does not give it (30_encoding R110:
there is no STA immediate, R269) and a byte string of the wrong length (R101). -/

namespace Sys2Proof

/-- The modes of each mnemonic (R110). -/
def Mnemonic.modes : Mnemonic → List Mode
  | .adc => [.imm, .zp, .zpx, .abs, .absx, .absy, .izx, .izy]
  | .alr => [.imm]
  | .anc => [.imm]
  | .and => [.imm, .zp, .zpx, .abs, .absx, .absy, .izx, .izy]
  | .ane => [.imm]
  | .arr => [.imm]
  | .asl => [.acc, .zp, .zpx, .abs, .absx]
  | .bcc => [.rel]
  | .bcs => [.rel]
  | .beq => [.rel]
  | .bit => [.zp, .abs]
  | .bmi => [.rel]
  | .bne => [.rel]
  | .bpl => [.rel]
  | .brk => [.imp]
  | .bvc => [.rel]
  | .bvs => [.rel]
  | .clc => [.imp]
  | .cld => [.imp]
  | .cli => [.imp]
  | .clv => [.imp]
  | .cmp => [.imm, .zp, .zpx, .abs, .absx, .absy, .izx, .izy]
  | .cpx => [.imm, .zp, .abs]
  | .cpy => [.imm, .zp, .abs]
  | .dcp => [.zp, .zpx, .abs, .absx, .absy, .izx, .izy]
  | .dec => [.zp, .zpx, .abs, .absx]
  | .dex => [.imp]
  | .dey => [.imp]
  | .eor => [.imm, .zp, .zpx, .abs, .absx, .absy, .izx, .izy]
  | .inc => [.zp, .zpx, .abs, .absx]
  | .inx => [.imp]
  | .iny => [.imp]
  | .isc => [.zp, .zpx, .abs, .absx, .absy, .izx, .izy]
  | .jam => [.imp]
  | .jmp => [.abs, .ind]
  | .jsr => [.abs]
  | .las => [.absy]
  | .lax => [.zp, .zpy, .abs, .absy, .izx, .izy]
  | .lda => [.imm, .zp, .zpx, .abs, .absx, .absy, .izx, .izy]
  | .ldx => [.imm, .zp, .zpy, .abs, .absy]
  | .ldy => [.imm, .zp, .zpx, .abs, .absx]
  | .lsr => [.acc, .zp, .zpx, .abs, .absx]
  | .lxa => [.imm]
  | .nop => [.imp, .imm, .zp, .zpx, .abs, .absx]
  | .ora => [.imm, .zp, .zpx, .abs, .absx, .absy, .izx, .izy]
  | .pha => [.imp]
  | .php => [.imp]
  | .pla => [.imp]
  | .plp => [.imp]
  | .rla => [.zp, .zpx, .abs, .absx, .absy, .izx, .izy]
  | .rol => [.acc, .zp, .zpx, .abs, .absx]
  | .ror => [.acc, .zp, .zpx, .abs, .absx]
  | .rra => [.zp, .zpx, .abs, .absx, .absy, .izx, .izy]
  | .rti => [.imp]
  | .rts => [.imp]
  | .sax => [.zp, .zpy, .abs, .izx]
  | .sbc => [.imm, .zp, .zpx, .abs, .absx, .absy, .izx, .izy]
  | .sbx => [.imm]
  | .sec => [.imp]
  | .sed => [.imp]
  | .sei => [.imp]
  | .sha => [.absy, .izy]
  | .shx => [.absy]
  | .shy => [.absx]
  | .slo => [.zp, .zpx, .abs, .absx, .absy, .izx, .izy]
  | .sre => [.zp, .zpx, .abs, .absx, .absy, .izx, .izy]
  | .sta => [.zp, .zpx, .abs, .absx, .absy, .izx, .izy]
  | .stx => [.zp, .zpy, .abs]
  | .sty => [.zp, .zpx, .abs]
  | .tas => [.absy]
  | .tax => [.imp]
  | .tay => [.imp]
  | .tsx => [.imp]
  | .txa => [.imp]
  | .txs => [.imp]
  | .tya => [.imp]
  | .usbc => [.imm]

/-- A mnemonic with an operand is an instruction if R110 gives the mnemonic that mode. -/
def Asm.WellFormed (t : Asm) : Bool := t.mnemonic.modes.contains t.operand.mode

/-- Well-formedness of an instruction: its mnemonic has its mode. -/
def Instr.WellFormed (i : Instr) : Bool := i.asm.WellFormed

/-- The length in bytes, fixed by the mode (R101). -/
def Mode.length : Mode → Nat
  | .imp => 1
  | .acc => 1
  | .imm => 2
  | .zp => 2
  | .zpx => 2
  | .zpy => 2
  | .abs => 3
  | .absx => 3
  | .absy => 3
  | .ind => 3
  | .izx => 2
  | .izy => 2
  | .rel => 2

/-- A byte string for an instruction of this mode has exactly the mode's length. -/
def Mode.bytesWellFormed (m : Mode) (bs : List Byte) : Bool := bs.length == m.length

end Sys2Proof
end

