-- ==== Sys2Proof/Decode.lean ====
section
/-! DEFINITION. Bit and byte-order helpers (00_scope R8, R9), the decoder and the encoder, and the Instruction Table (30_encoding
R100 to R111).  The opcode byte alone selects the row (R100), every byte has one (R105), so the decoder is a 256-entry lookup. -/

namespace Sys2Proof

/-- `hi8(w) = w[15:8]` (R8). -/
def hi8 (w : Addr) : Byte := w.extractLsb' 8 8

/-- `lo8(w) = w[7:0]` (R8). -/
def lo8 (w : Addr) : Byte := w.setWidth 8

/-- `w16(h, l) = h*256 + l` (R8). -/
def w16 (h l : Byte) : Addr := BitVec.ofNat 16 (h.toNat * 256 + l.toNat)

/-- `sext_8(v)` as a 16-bit number (R9, R103). -/
def sext8 (v : Byte) : Addr := v.signExtend 16

/-- What follows the opcode byte of an instruction: nothing, one byte, or a 16-bit operand, low byte first (R102, R104). -/
inductive Form where
  | imp (i : Instr)
  | byte (f : Byte → Instr)
  | word (f : Addr → Instr)

/-- The instruction of a form for an operand held in 16 bits. -/
def Form.build : Form → Addr → Instr
  | .imp i, _ => i
  | .byte f, w => f (lo8 w)
  | .word f, w => f w

/-- Opcodes 0x00 to 0x0F (R109). -/
def formRow0 : List Form :=
  [.imp .brk, .byte .oraIzx, .imp .jam02, .byte .sloIzx,
   .byte .nopZp04, .byte .oraZp, .byte .aslZp, .byte .sloZp,
   .imp .php, .byte .oraImm, .imp .aslAcc, .byte .ancImm0B,
   .word .nopAbs0C, .word .oraAbs, .word .aslAbs, .word .sloAbs]

/-- Opcodes 0x10 to 0x1F (R109). -/
def formRow1 : List Form :=
  [.byte .bpl, .byte .oraIzy, .imp .jam12, .byte .sloIzy,
   .byte .nopZpx14, .byte .oraZpx, .byte .aslZpx, .byte .sloZpx,
   .imp .clc, .word .oraAbsy, .imp .nopImp1A, .word .sloAbsy,
   .word .nopAbsx1C, .word .oraAbsx, .word .aslAbsx, .word .sloAbsx]

/-- Opcodes 0x20 to 0x2F (R109). -/
def formRow2 : List Form :=
  [.word .jsrAbs, .byte .andIzx, .imp .jam22, .byte .rlaIzx,
   .byte .bitZp, .byte .andZp, .byte .rolZp, .byte .rlaZp,
   .imp .plp, .byte .andImm, .imp .rolAcc, .byte .ancImm2B,
   .word .bitAbs, .word .andAbs, .word .rolAbs, .word .rlaAbs]

/-- Opcodes 0x30 to 0x3F (R109). -/
def formRow3 : List Form :=
  [.byte .bmi, .byte .andIzy, .imp .jam32, .byte .rlaIzy,
   .byte .nopZpx34, .byte .andZpx, .byte .rolZpx, .byte .rlaZpx,
   .imp .sec, .word .andAbsy, .imp .nopImp3A, .word .rlaAbsy,
   .word .nopAbsx3C, .word .andAbsx, .word .rolAbsx, .word .rlaAbsx]

/-- Opcodes 0x40 to 0x4F (R109). -/
def formRow4 : List Form :=
  [.imp .rti, .byte .eorIzx, .imp .jam42, .byte .sreIzx,
   .byte .nopZp44, .byte .eorZp, .byte .lsrZp, .byte .sreZp,
   .imp .pha, .byte .eorImm, .imp .lsrAcc, .byte .alrImm,
   .word .jmpAbs, .word .eorAbs, .word .lsrAbs, .word .sreAbs]

/-- Opcodes 0x50 to 0x5F (R109). -/
def formRow5 : List Form :=
  [.byte .bvc, .byte .eorIzy, .imp .jam52, .byte .sreIzy,
   .byte .nopZpx54, .byte .eorZpx, .byte .lsrZpx, .byte .sreZpx,
   .imp .cli, .word .eorAbsy, .imp .nopImp5A, .word .sreAbsy,
   .word .nopAbsx5C, .word .eorAbsx, .word .lsrAbsx, .word .sreAbsx]

/-- Opcodes 0x60 to 0x6F (R109). -/
def formRow6 : List Form :=
  [.imp .rts, .byte .adcIzx, .imp .jam62, .byte .rraIzx,
   .byte .nopZp64, .byte .adcZp, .byte .rorZp, .byte .rraZp,
   .imp .pla, .byte .adcImm, .imp .rorAcc, .byte .arrImm,
   .word .jmpInd, .word .adcAbs, .word .rorAbs, .word .rraAbs]

/-- Opcodes 0x70 to 0x7F (R109). -/
def formRow7 : List Form :=
  [.byte .bvs, .byte .adcIzy, .imp .jam72, .byte .rraIzy,
   .byte .nopZpx74, .byte .adcZpx, .byte .rorZpx, .byte .rraZpx,
   .imp .sei, .word .adcAbsy, .imp .nopImp7A, .word .rraAbsy,
   .word .nopAbsx7C, .word .adcAbsx, .word .rorAbsx, .word .rraAbsx]

/-- Opcodes 0x80 to 0x8F (R109). -/
def formRow8 : List Form :=
  [.byte .nopImm80, .byte .staIzx, .byte .nopImm82, .byte .saxIzx,
   .byte .styZp, .byte .staZp, .byte .stxZp, .byte .saxZp,
   .imp .dey, .byte .nopImm89, .imp .txa, .byte .aneImm,
   .word .styAbs, .word .staAbs, .word .stxAbs, .word .saxAbs]

/-- Opcodes 0x90 to 0x9F (R109). -/
def formRow9 : List Form :=
  [.byte .bcc, .byte .staIzy, .imp .jam92, .byte .shaIzy,
   .byte .styZpx, .byte .staZpx, .byte .stxZpy, .byte .saxZpy,
   .imp .tya, .word .staAbsy, .imp .txs, .word .tasAbsy,
   .word .shyAbsx, .word .staAbsx, .word .shxAbsy, .word .shaAbsy]

/-- Opcodes 0xA0 to 0xAF (R109). -/
def formRowA : List Form :=
  [.byte .ldyImm, .byte .ldaIzx, .byte .ldxImm, .byte .laxIzx,
   .byte .ldyZp, .byte .ldaZp, .byte .ldxZp, .byte .laxZp,
   .imp .tay, .byte .ldaImm, .imp .tax, .byte .lxaImm,
   .word .ldyAbs, .word .ldaAbs, .word .ldxAbs, .word .laxAbs]

/-- Opcodes 0xB0 to 0xBF (R109). -/
def formRowB : List Form :=
  [.byte .bcs, .byte .ldaIzy, .imp .jamB2, .byte .laxIzy,
   .byte .ldyZpx, .byte .ldaZpx, .byte .ldxZpy, .byte .laxZpy,
   .imp .clv, .word .ldaAbsy, .imp .tsx, .word .lasAbsy,
   .word .ldyAbsx, .word .ldaAbsx, .word .ldxAbsy, .word .laxAbsy]

/-- Opcodes 0xC0 to 0xCF (R109). -/
def formRowC : List Form :=
  [.byte .cpyImm, .byte .cmpIzx, .byte .nopImmC2, .byte .dcpIzx,
   .byte .cpyZp, .byte .cmpZp, .byte .decZp, .byte .dcpZp,
   .imp .iny, .byte .cmpImm, .imp .dex, .byte .sbxImm,
   .word .cpyAbs, .word .cmpAbs, .word .decAbs, .word .dcpAbs]

/-- Opcodes 0xD0 to 0xDF (R109). -/
def formRowD : List Form :=
  [.byte .bne, .byte .cmpIzy, .imp .jamD2, .byte .dcpIzy,
   .byte .nopZpxD4, .byte .cmpZpx, .byte .decZpx, .byte .dcpZpx,
   .imp .cld, .word .cmpAbsy, .imp .nopImpDA, .word .dcpAbsy,
   .word .nopAbsxDC, .word .cmpAbsx, .word .decAbsx, .word .dcpAbsx]

/-- Opcodes 0xE0 to 0xEF (R109). -/
def formRowE : List Form :=
  [.byte .cpxImm, .byte .sbcIzx, .byte .nopImmE2, .byte .iscIzx,
   .byte .cpxZp, .byte .sbcZp, .byte .incZp, .byte .iscZp,
   .imp .inx, .byte .sbcImm, .imp .nopImpEA, .byte .usbcImm,
   .word .cpxAbs, .word .sbcAbs, .word .incAbs, .word .iscAbs]

/-- Opcodes 0xF0 to 0xFF (R109). -/
def formRowF : List Form :=
  [.byte .beq, .byte .sbcIzy, .imp .jamF2, .byte .iscIzy,
   .byte .nopZpxF4, .byte .sbcZpx, .byte .incZpx, .byte .iscZpx,
   .imp .sed, .word .sbcAbsy, .imp .nopImpFA, .word .iscAbsy,
   .word .nopAbsxFC, .word .sbcAbsx, .word .incAbsx, .word .iscAbsx]

/-- The row of a high nibble. -/
def formRow : Nat → List Form
  | 0 => formRow0
  | 1 => formRow1
  | 2 => formRow2
  | 3 => formRow3
  | 4 => formRow4
  | 5 => formRow5
  | 6 => formRow6
  | 7 => formRow7
  | 8 => formRow8
  | 9 => formRow9
  | 10 => formRowA
  | 11 => formRowB
  | 12 => formRowC
  | 13 => formRowD
  | 14 => formRowE
  | _ => formRowF

/-- The form an opcode byte selects: total, no byte is refused (R105, R106). -/
def form (opc : Byte) : Form :=
  ((formRow (opc.toNat / 16))[opc.toNat % 16]?).getD (.imp .brk)

/-- Why a byte string does not decode: it ends too early.  No byte value is refused (R106). -/
inductive DecodeError where
  /-- No byte at all. -/
  | empty
  /-- The opcode's operand bytes are not all there. -/
  | truncated (opcode : Byte)
  deriving DecidableEq, Repr

/-- Decode one instruction and give the bytes after it. -/
def decode : List Byte → Except DecodeError (Instr × List Byte)
  | [] => .error .empty
  | opc :: rest =>
    match form opc with
    | .imp i => .ok (i, rest)
    | .byte f =>
      match rest with
      | b :: rest' => .ok (f b, rest')
      | [] => .error (.truncated opc)
    | .word f =>
      match rest with
      | l :: h :: rest' => .ok (f (w16 h l), rest')
      | [_] => .error (.truncated opc)
      | [] => .error (.truncated opc)

/-- Byte `k` of an instruction whose first byte is bits 7..0. -/
def byteOfWord (w k : Nat) : Byte := BitVec.ofNat 8 (w / 256 ^ k)

/-- The three bytes of an instruction given as the low `nbits` bits of a number, the rest zero. -/
def bytesOfWord (nbits w : Nat) : List Byte :=
  [byteOfWord (w % 2 ^ nbits) 0, byteOfWord (w % 2 ^ nbits) 1, byteOfWord (w % 2 ^ nbits) 2]

/-- What the decoder reads from an instruction numbered as the opcode table numbers it. -/
def decodeTableWord (nbits w : Nat) : Option Instr :=
  match decode (bytesOfWord nbits w) with
  | .ok r => some r.1
  | .error _ => none

/-- The operand bytes of an encoding, low byte first (R102, R104). -/
def Operand.bytes : Operand → List Byte
  | .imp => []
  | .acc => []
  | .imm v => [v]
  | .zp b => [b]
  | .zpx b => [b]
  | .zpy b => [b]
  | .abs w => [lo8 w, hi8 w]
  | .absx w => [lo8 w, hi8 w]
  | .absy w => [lo8 w, hi8 w]
  | .ind w => [lo8 w, hi8 w]
  | .izx b => [b]
  | .izy b => [b]
  | .rel o => [o]

/-- The operand in 16 bits, zero-extended. -/
def Operand.word : Operand → Addr
  | .imp => 0
  | .acc => 0
  | .imm v => w16 0 v
  | .zp b => w16 0 b
  | .zpx b => w16 0 b
  | .zpy b => w16 0 b
  | .abs w => w
  | .absx w => w
  | .absy w => w
  | .ind w => w
  | .izx b => w16 0 b
  | .izy b => w16 0 b
  | .rel o => w16 0 o

/-- The opcode byte of an instruction (R110). -/
def Instr.opcode : Instr → Byte
  | .adcImm _ => 0x69
  | .adcZp _ => 0x65
  | .adcZpx _ => 0x75
  | .adcAbs _ => 0x6D
  | .adcAbsx _ => 0x7D
  | .adcAbsy _ => 0x79
  | .adcIzx _ => 0x61
  | .adcIzy _ => 0x71
  | .sbcImm _ => 0xE9
  | .sbcZp _ => 0xE5
  | .sbcZpx _ => 0xF5
  | .sbcAbs _ => 0xED
  | .sbcAbsx _ => 0xFD
  | .sbcAbsy _ => 0xF9
  | .sbcIzx _ => 0xE1
  | .sbcIzy _ => 0xF1
  | .andImm _ => 0x29
  | .andZp _ => 0x25
  | .andZpx _ => 0x35
  | .andAbs _ => 0x2D
  | .andAbsx _ => 0x3D
  | .andAbsy _ => 0x39
  | .andIzx _ => 0x21
  | .andIzy _ => 0x31
  | .oraImm _ => 0x09
  | .oraZp _ => 0x05
  | .oraZpx _ => 0x15
  | .oraAbs _ => 0x0D
  | .oraAbsx _ => 0x1D
  | .oraAbsy _ => 0x19
  | .oraIzx _ => 0x01
  | .oraIzy _ => 0x11
  | .eorImm _ => 0x49
  | .eorZp _ => 0x45
  | .eorZpx _ => 0x55
  | .eorAbs _ => 0x4D
  | .eorAbsx _ => 0x5D
  | .eorAbsy _ => 0x59
  | .eorIzx _ => 0x41
  | .eorIzy _ => 0x51
  | .bitZp _ => 0x24
  | .bitAbs _ => 0x2C
  | .aslAcc => 0x0A
  | .aslZp _ => 0x06
  | .aslZpx _ => 0x16
  | .aslAbs _ => 0x0E
  | .aslAbsx _ => 0x1E
  | .lsrAcc => 0x4A
  | .lsrZp _ => 0x46
  | .lsrZpx _ => 0x56
  | .lsrAbs _ => 0x4E
  | .lsrAbsx _ => 0x5E
  | .rolAcc => 0x2A
  | .rolZp _ => 0x26
  | .rolZpx _ => 0x36
  | .rolAbs _ => 0x2E
  | .rolAbsx _ => 0x3E
  | .rorAcc => 0x6A
  | .rorZp _ => 0x66
  | .rorZpx _ => 0x76
  | .rorAbs _ => 0x6E
  | .rorAbsx _ => 0x7E
  | .cmpImm _ => 0xC9
  | .cmpZp _ => 0xC5
  | .cmpZpx _ => 0xD5
  | .cmpAbs _ => 0xCD
  | .cmpAbsx _ => 0xDD
  | .cmpAbsy _ => 0xD9
  | .cmpIzx _ => 0xC1
  | .cmpIzy _ => 0xD1
  | .cpxImm _ => 0xE0
  | .cpxZp _ => 0xE4
  | .cpxAbs _ => 0xEC
  | .cpyImm _ => 0xC0
  | .cpyZp _ => 0xC4
  | .cpyAbs _ => 0xCC
  | .incZp _ => 0xE6
  | .incZpx _ => 0xF6
  | .incAbs _ => 0xEE
  | .incAbsx _ => 0xFE
  | .decZp _ => 0xC6
  | .decZpx _ => 0xD6
  | .decAbs _ => 0xCE
  | .decAbsx _ => 0xDE
  | .inx => 0xE8
  | .iny => 0xC8
  | .dex => 0xCA
  | .dey => 0x88
  | .bcc _ => 0x90
  | .bcs _ => 0xB0
  | .beq _ => 0xF0
  | .bne _ => 0xD0
  | .bmi _ => 0x30
  | .bpl _ => 0x10
  | .bvc _ => 0x50
  | .bvs _ => 0x70
  | .pha => 0x48
  | .php => 0x08
  | .pla => 0x68
  | .plp => 0x28
  | .jsrAbs _ => 0x20
  | .rts => 0x60
  | .rti => 0x40
  | .brk => 0x00
  | .jmpAbs _ => 0x4C
  | .jmpInd _ => 0x6C
  | .tax => 0xAA
  | .tay => 0xA8
  | .txa => 0x8A
  | .tya => 0x98
  | .tsx => 0xBA
  | .txs => 0x9A
  | .ldaImm _ => 0xA9
  | .ldaZp _ => 0xA5
  | .ldaZpx _ => 0xB5
  | .ldaAbs _ => 0xAD
  | .ldaAbsx _ => 0xBD
  | .ldaAbsy _ => 0xB9
  | .ldaIzx _ => 0xA1
  | .ldaIzy _ => 0xB1
  | .ldxImm _ => 0xA2
  | .ldxZp _ => 0xA6
  | .ldxZpy _ => 0xB6
  | .ldxAbs _ => 0xAE
  | .ldxAbsy _ => 0xBE
  | .ldyImm _ => 0xA0
  | .ldyZp _ => 0xA4
  | .ldyZpx _ => 0xB4
  | .ldyAbs _ => 0xAC
  | .ldyAbsx _ => 0xBC
  | .staZp _ => 0x85
  | .staZpx _ => 0x95
  | .staAbs _ => 0x8D
  | .staAbsx _ => 0x9D
  | .staAbsy _ => 0x99
  | .staIzx _ => 0x81
  | .staIzy _ => 0x91
  | .stxZp _ => 0x86
  | .stxZpy _ => 0x96
  | .stxAbs _ => 0x8E
  | .styZp _ => 0x84
  | .styZpx _ => 0x94
  | .styAbs _ => 0x8C
  | .clc => 0x18
  | .sec => 0x38
  | .cli => 0x58
  | .sei => 0x78
  | .cld => 0xD8
  | .sed => 0xF8
  | .clv => 0xB8
  | .nopImp1A => 0x1A
  | .nopImp3A => 0x3A
  | .nopImp5A => 0x5A
  | .nopImp7A => 0x7A
  | .nopImpDA => 0xDA
  | .nopImpEA => 0xEA
  | .nopImpFA => 0xFA
  | .nopImm80 _ => 0x80
  | .nopImm82 _ => 0x82
  | .nopImm89 _ => 0x89
  | .nopImmC2 _ => 0xC2
  | .nopImmE2 _ => 0xE2
  | .nopZp04 _ => 0x04
  | .nopZp44 _ => 0x44
  | .nopZp64 _ => 0x64
  | .nopZpx14 _ => 0x14
  | .nopZpx34 _ => 0x34
  | .nopZpx54 _ => 0x54
  | .nopZpx74 _ => 0x74
  | .nopZpxD4 _ => 0xD4
  | .nopZpxF4 _ => 0xF4
  | .nopAbs0C _ => 0x0C
  | .nopAbsx1C _ => 0x1C
  | .nopAbsx3C _ => 0x3C
  | .nopAbsx5C _ => 0x5C
  | .nopAbsx7C _ => 0x7C
  | .nopAbsxDC _ => 0xDC
  | .nopAbsxFC _ => 0xFC
  | .alrImm _ => 0x4B
  | .ancImm0B _ => 0x0B
  | .ancImm2B _ => 0x2B
  | .arrImm _ => 0x6B
  | .dcpZp _ => 0xC7
  | .dcpZpx _ => 0xD7
  | .dcpAbs _ => 0xCF
  | .dcpAbsx _ => 0xDF
  | .dcpAbsy _ => 0xDB
  | .dcpIzx _ => 0xC3
  | .dcpIzy _ => 0xD3
  | .iscZp _ => 0xE7
  | .iscZpx _ => 0xF7
  | .iscAbs _ => 0xEF
  | .iscAbsx _ => 0xFF
  | .iscAbsy _ => 0xFB
  | .iscIzx _ => 0xE3
  | .iscIzy _ => 0xF3
  | .lasAbsy _ => 0xBB
  | .laxZp _ => 0xA7
  | .laxZpy _ => 0xB7
  | .laxAbs _ => 0xAF
  | .laxAbsy _ => 0xBF
  | .laxIzx _ => 0xA3
  | .laxIzy _ => 0xB3
  | .lxaImm _ => 0xAB
  | .rlaZp _ => 0x27
  | .rlaZpx _ => 0x37
  | .rlaAbs _ => 0x2F
  | .rlaAbsx _ => 0x3F
  | .rlaAbsy _ => 0x3B
  | .rlaIzx _ => 0x23
  | .rlaIzy _ => 0x33
  | .rraZp _ => 0x67
  | .rraZpx _ => 0x77
  | .rraAbs _ => 0x6F
  | .rraAbsx _ => 0x7F
  | .rraAbsy _ => 0x7B
  | .rraIzx _ => 0x63
  | .rraIzy _ => 0x73
  | .saxZp _ => 0x87
  | .saxZpy _ => 0x97
  | .saxAbs _ => 0x8F
  | .saxIzx _ => 0x83
  | .sbxImm _ => 0xCB
  | .shaAbsy _ => 0x9F
  | .shaIzy _ => 0x93
  | .shxAbsy _ => 0x9E
  | .shyAbsx _ => 0x9C
  | .sloZp _ => 0x07
  | .sloZpx _ => 0x17
  | .sloAbs _ => 0x0F
  | .sloAbsx _ => 0x1F
  | .sloAbsy _ => 0x1B
  | .sloIzx _ => 0x03
  | .sloIzy _ => 0x13
  | .sreZp _ => 0x47
  | .sreZpx _ => 0x57
  | .sreAbs _ => 0x4F
  | .sreAbsx _ => 0x5F
  | .sreAbsy _ => 0x5B
  | .sreIzx _ => 0x43
  | .sreIzy _ => 0x53
  | .tasAbsy _ => 0x9B
  | .aneImm _ => 0x8B
  | .usbcImm _ => 0xEB
  | .jam02 => 0x02
  | .jam12 => 0x12
  | .jam22 => 0x22
  | .jam32 => 0x32
  | .jam42 => 0x42
  | .jam52 => 0x52
  | .jam62 => 0x62
  | .jam72 => 0x72
  | .jam92 => 0x92
  | .jamB2 => 0xB2
  | .jamD2 => 0xD2
  | .jamF2 => 0xF2

/-- The encoding of an instruction: the opcode byte, then the operand bytes (R100, R102). -/
def encode (i : Instr) : List Byte := i.opcode :: i.operand.bytes

/-- The base cycles of a descriptor: a number, or the parameter `jamCycles` (R129). -/
inductive BaseCycles where
  | fixed (n : Nat)
  | jam
  deriving DecidableEq, Repr

/-- An Opcode Descriptor (R109, R129). -/
structure Descriptor where
  mnemonic : Mnemonic
  mode : Mode
  baseCycles : BaseCycles
  pagePenalty : Bool
  deriving DecidableEq, Repr

/-- A cell of R109's map without the penalty. -/
def plain (m : Mnemonic) (mode : Mode) (base : Nat) : Descriptor := ⟨m, mode, .fixed base, false⟩

/-- A cell of R109's map marked `*`: the page-cross penalty applies (R111). -/
def starred (m : Mnemonic) (mode : Mode) (base : Nat) : Descriptor := ⟨m, mode, .fixed base, true⟩

/-- `JAM imp j`. -/
def jamCell : Descriptor := ⟨.jam, .imp, .jam, false⟩

/-- Opcodes 0x00 to 0x0F (R109). -/
def tableRow0 : List Descriptor :=
  [plain .brk .imp 7, plain .ora .izx 6, jamCell, plain .slo .izx 8,
   plain .nop .zp 3, plain .ora .zp 3, plain .asl .zp 5, plain .slo .zp 5,
   plain .php .imp 3, plain .ora .imm 2, plain .asl .acc 2, plain .anc .imm 2,
   plain .nop .abs 4, plain .ora .abs 4, plain .asl .abs 6, plain .slo .abs 6]

/-- Opcodes 0x10 to 0x1F (R109). -/
def tableRow1 : List Descriptor :=
  [plain .bpl .rel 2, starred .ora .izy 5, jamCell, plain .slo .izy 8,
   plain .nop .zpx 4, plain .ora .zpx 4, plain .asl .zpx 6, plain .slo .zpx 6,
   plain .clc .imp 2, starred .ora .absy 4, plain .nop .imp 2, plain .slo .absy 7,
   starred .nop .absx 4, starred .ora .absx 4, plain .asl .absx 7, plain .slo .absx 7]

/-- Opcodes 0x20 to 0x2F (R109). -/
def tableRow2 : List Descriptor :=
  [plain .jsr .abs 6, plain .and .izx 6, jamCell, plain .rla .izx 8,
   plain .bit .zp 3, plain .and .zp 3, plain .rol .zp 5, plain .rla .zp 5,
   plain .plp .imp 4, plain .and .imm 2, plain .rol .acc 2, plain .anc .imm 2,
   plain .bit .abs 4, plain .and .abs 4, plain .rol .abs 6, plain .rla .abs 6]

/-- Opcodes 0x30 to 0x3F (R109). -/
def tableRow3 : List Descriptor :=
  [plain .bmi .rel 2, starred .and .izy 5, jamCell, plain .rla .izy 8,
   plain .nop .zpx 4, plain .and .zpx 4, plain .rol .zpx 6, plain .rla .zpx 6,
   plain .sec .imp 2, starred .and .absy 4, plain .nop .imp 2, plain .rla .absy 7,
   starred .nop .absx 4, starred .and .absx 4, plain .rol .absx 7, plain .rla .absx 7]

/-- Opcodes 0x40 to 0x4F (R109). -/
def tableRow4 : List Descriptor :=
  [plain .rti .imp 6, plain .eor .izx 6, jamCell, plain .sre .izx 8,
   plain .nop .zp 3, plain .eor .zp 3, plain .lsr .zp 5, plain .sre .zp 5,
   plain .pha .imp 3, plain .eor .imm 2, plain .lsr .acc 2, plain .alr .imm 2,
   plain .jmp .abs 3, plain .eor .abs 4, plain .lsr .abs 6, plain .sre .abs 6]

/-- Opcodes 0x50 to 0x5F (R109). -/
def tableRow5 : List Descriptor :=
  [plain .bvc .rel 2, starred .eor .izy 5, jamCell, plain .sre .izy 8,
   plain .nop .zpx 4, plain .eor .zpx 4, plain .lsr .zpx 6, plain .sre .zpx 6,
   plain .cli .imp 2, starred .eor .absy 4, plain .nop .imp 2, plain .sre .absy 7,
   starred .nop .absx 4, starred .eor .absx 4, plain .lsr .absx 7, plain .sre .absx 7]

/-- Opcodes 0x60 to 0x6F (R109). -/
def tableRow6 : List Descriptor :=
  [plain .rts .imp 6, plain .adc .izx 6, jamCell, plain .rra .izx 8,
   plain .nop .zp 3, plain .adc .zp 3, plain .ror .zp 5, plain .rra .zp 5,
   plain .pla .imp 4, plain .adc .imm 2, plain .ror .acc 2, plain .arr .imm 2,
   plain .jmp .ind 5, plain .adc .abs 4, plain .ror .abs 6, plain .rra .abs 6]

/-- Opcodes 0x70 to 0x7F (R109). -/
def tableRow7 : List Descriptor :=
  [plain .bvs .rel 2, starred .adc .izy 5, jamCell, plain .rra .izy 8,
   plain .nop .zpx 4, plain .adc .zpx 4, plain .ror .zpx 6, plain .rra .zpx 6,
   plain .sei .imp 2, starred .adc .absy 4, plain .nop .imp 2, plain .rra .absy 7,
   starred .nop .absx 4, starred .adc .absx 4, plain .ror .absx 7, plain .rra .absx 7]

/-- Opcodes 0x80 to 0x8F (R109). -/
def tableRow8 : List Descriptor :=
  [plain .nop .imm 2, plain .sta .izx 6, plain .nop .imm 2, plain .sax .izx 6,
   plain .sty .zp 3, plain .sta .zp 3, plain .stx .zp 3, plain .sax .zp 3,
   plain .dey .imp 2, plain .nop .imm 2, plain .txa .imp 2, plain .ane .imm 2,
   plain .sty .abs 4, plain .sta .abs 4, plain .stx .abs 4, plain .sax .abs 4]

/-- Opcodes 0x90 to 0x9F (R109). -/
def tableRow9 : List Descriptor :=
  [plain .bcc .rel 2, plain .sta .izy 6, jamCell, plain .sha .izy 6,
   plain .sty .zpx 4, plain .sta .zpx 4, plain .stx .zpy 4, plain .sax .zpy 4,
   plain .tya .imp 2, plain .sta .absy 5, plain .txs .imp 2, plain .tas .absy 5,
   plain .shy .absx 5, plain .sta .absx 5, plain .shx .absy 5, plain .sha .absy 5]

/-- Opcodes 0xA0 to 0xAF (R109). -/
def tableRowA : List Descriptor :=
  [plain .ldy .imm 2, plain .lda .izx 6, plain .ldx .imm 2, plain .lax .izx 6,
   plain .ldy .zp 3, plain .lda .zp 3, plain .ldx .zp 3, plain .lax .zp 3,
   plain .tay .imp 2, plain .lda .imm 2, plain .tax .imp 2, plain .lxa .imm 2,
   plain .ldy .abs 4, plain .lda .abs 4, plain .ldx .abs 4, plain .lax .abs 4]

/-- Opcodes 0xB0 to 0xBF (R109). -/
def tableRowB : List Descriptor :=
  [plain .bcs .rel 2, starred .lda .izy 5, jamCell, starred .lax .izy 5,
   plain .ldy .zpx 4, plain .lda .zpx 4, plain .ldx .zpy 4, plain .lax .zpy 4,
   plain .clv .imp 2, starred .lda .absy 4, plain .tsx .imp 2, starred .las .absy 4,
   starred .ldy .absx 4, starred .lda .absx 4, starred .ldx .absy 4, starred .lax .absy 4]

/-- Opcodes 0xC0 to 0xCF (R109). -/
def tableRowC : List Descriptor :=
  [plain .cpy .imm 2, plain .cmp .izx 6, plain .nop .imm 2, plain .dcp .izx 8,
   plain .cpy .zp 3, plain .cmp .zp 3, plain .dec .zp 5, plain .dcp .zp 5,
   plain .iny .imp 2, plain .cmp .imm 2, plain .dex .imp 2, plain .sbx .imm 2,
   plain .cpy .abs 4, plain .cmp .abs 4, plain .dec .abs 6, plain .dcp .abs 6]

/-- Opcodes 0xD0 to 0xDF (R109). -/
def tableRowD : List Descriptor :=
  [plain .bne .rel 2, starred .cmp .izy 5, jamCell, plain .dcp .izy 8,
   plain .nop .zpx 4, plain .cmp .zpx 4, plain .dec .zpx 6, plain .dcp .zpx 6,
   plain .cld .imp 2, starred .cmp .absy 4, plain .nop .imp 2, plain .dcp .absy 7,
   starred .nop .absx 4, starred .cmp .absx 4, plain .dec .absx 7, plain .dcp .absx 7]

/-- Opcodes 0xE0 to 0xEF (R109). -/
def tableRowE : List Descriptor :=
  [plain .cpx .imm 2, plain .sbc .izx 6, plain .nop .imm 2, plain .isc .izx 8,
   plain .cpx .zp 3, plain .sbc .zp 3, plain .inc .zp 5, plain .isc .zp 5,
   plain .inx .imp 2, plain .sbc .imm 2, plain .nop .imp 2, plain .usbc .imm 2,
   plain .cpx .abs 4, plain .sbc .abs 4, plain .inc .abs 6, plain .isc .abs 6]

/-- Opcodes 0xF0 to 0xFF (R109). -/
def tableRowF : List Descriptor :=
  [plain .beq .rel 2, starred .sbc .izy 5, jamCell, plain .isc .izy 8,
   plain .nop .zpx 4, plain .sbc .zpx 4, plain .inc .zpx 6, plain .isc .zpx 6,
   plain .sed .imp 2, starred .sbc .absy 4, plain .nop .imp 2, plain .isc .absy 7,
   starred .nop .absx 4, starred .sbc .absx 4, plain .inc .absx 7, plain .isc .absx 7]

/-- The row of a high nibble. -/
def tableRow : Nat → List Descriptor
  | 0 => tableRow0
  | 1 => tableRow1
  | 2 => tableRow2
  | 3 => tableRow3
  | 4 => tableRow4
  | 5 => tableRow5
  | 6 => tableRow6
  | 7 => tableRow7
  | 8 => tableRow8
  | 9 => tableRow9
  | 10 => tableRowA
  | 11 => tableRowB
  | 12 => tableRowC
  | 13 => tableRowD
  | 14 => tableRowE
  | _ => tableRowF

/-- `Table[opc]` (R109, R123): the lookup cannot fail, all 256 entries are there (theorem `tableRow_length`). -/
def descriptorOf (opc : Byte) : Descriptor :=
  ((tableRow (opc.toNat / 16))[opc.toNat % 16]?).getD jamCell

end Sys2Proof
end

