-- ==== Sys2Proof/Config.lean ====
section
/-! DEFINITION. What an implementation fixes and the values the spec leaves open: the named parameters of
00_scope R7, the ports and events of the external interface (20_memory R91, R92), and the free values. -/

namespace Sys2Proof

/-- `plpBreak` (R7, R241): what PLP and RTI leave in the B bit. -/
inductive PlpBreak where
  | fromStack
  | keep
  | clear
  deriving DecidableEq, Repr

/-- The named parameters the machine takes as arguments (R7), but for the cartridge and `powerOn`. -/
structure Params where
  /-- R241, default `fromStack`. -/
  plpBreak : PlpBreak
  /-- R287: whether a memory-operand NOP reads its operand, default `true`. -/
  nopReadsOperand : Bool
  /-- R322: whether a page cross replaces the target's high byte, default `true`. -/
  shxAddrGlitch : Bool
  /-- R72: whether a write to 0x4016 reaches the controller port, default `false`. -/
  write4016ToController : Bool
  /-- R319: the constant of ANE, OPEN. -/
  aneConst : Byte
  /-- R308: the constant of LXA, OPEN. -/
  lxaConst : Byte
  /-- R321: cycles the JAM tick reports, OPEN. -/
  jamCycles : Nat
  /-- R379: cycles the driver counts for a reset, OPEN. -/
  resetCycles : Nat
  deriving DecidableEq, Repr

/-- A port of the external collaborators that the core can read (R91). -/
inductive ExtPort where
  | ppu (r : BitVec 3)
  | apu (a : Addr)
  | ctrl (port : Fin 2)
  deriving DecidableEq, Repr

/-- One entry of the output event history (R92). -/
inductive BusEvent where
  | ppuWrite (r : BitVec 3) (v : Byte)
  | apuWrite (a : Addr) (v : Byte)
  | oamDma (page : Byte)
  | ctrlWrite (v : Byte)
  | ppuRead (r : BitVec 3) (b : Byte)
  | apuRead (a : Addr) (b : Byte)
  | ctrlRead (port : Fin 2) (b : Byte)
  deriving DecidableEq, Repr

namespace Config

/-- Free value: the collaborators' answer to an external read (R91, U-4).  It is applied to the number of external
reads made so far, the event history and the port, so every answer is a fresh one and nothing constrains it (log 5). -/
opaque extAnswer : Nat → List BusEvent → ExtPort → Byte

/-- Free value: the constant of ANE (R319, U-5; log 6). -/
opaque aneConst : Byte

/-- Free value: the constant of LXA (R308, U-6; log 6). -/
opaque lxaConst : Byte

/-- Free value: the cycles a JAM tick reports (R321, U-2; log 7). -/
opaque jamCycles : Nat

/-- Free value: the cycles a driver counts for a reset (R379, U-12; log 7). -/
opaque resetCycles : Nat

/-- The parameters at the defaults R7 gives; the OPEN ones at their free values (log 1). -/
def defaultParams : Params where
  plpBreak := .fromStack
  nopReadsOperand := true
  shxAddrGlitch := true
  write4016ToController := false
  aneConst := aneConst
  lxaConst := lxaConst
  jamCycles := jamCycles
  resetCycles := resetCycles

end Config
end Sys2Proof
end

