-- ==== Sys2Proof/Machine/State.lean ====
section
/-! DEFINITION. The state of the core as plain data: everything 10_state R30 to R51 gives it, the event history of
20_memory R92, the tick's returned cycle count (40_dispatch R126), and the parameters of 00_scope R7. -/

namespace Sys2Proof.Machine

/-- Why a step stops.  The core itself has no fault (R340). -/
inductive Fault where
  /-- Raised by `step` on a jammed core, and by nothing else: such a core has no tick step (R121).  Safe: the source
  forbids the call and gives it no behaviour, so nothing is claimed after it (log 10). -/
  | jammedCore
  deriving DecidableEq, Repr

/-- Why an instruction has no meaning in the model. -/
inductive Refusal where
  /-- Raised by an arm of `exec` whose instruction is not modelled yet; no arm does.  Safe: the model stops. -/
  | notModelled (mnemonic : String)
  deriving DecidableEq, Repr

/-- Sparse bytes by key, in the canonical form `Memory.wf` of Machine/Memory.lean. -/
abbrev Memory := List Host.Cell

/-- The status register P, "held as eight named single-bit flags" (R35), bit 0 first. -/
structure Status where
  c : Bool
  z : Bool
  i : Bool
  d : Bool
  b : Bool
  u : Bool
  v : Bool
  n : Bool
  deriving DecidableEq, Repr

/-- `ctrl1[0]` of the cartridge header (R371). -/
inductive Mirroring where
  | horizontal
  | vertical
  deriving DecidableEq, Repr

/-- The cartridge, constant after load (R48).  `prgRom` and `chrRom` are keyed by offset in the image. -/
structure Cartridge where
  /-- Program-ROM size in 16 KiB units, at least 1 (R48, R371). -/
  prgUnits : Nat
  prgRom : Memory
  /-- Character-ROM size in 8 KiB units (R48, R371). -/
  chrUnits : Nat
  chrRom : Memory
  mirroring : Mirroring
  fourScreen : Bool
  /-- 0 for a loaded cartridge (R48, R78). -/
  mapperId : Byte
  deriving DecidableEq, Repr

/-- The complete state vector (R51), with the block's two outputs and the machine's parameters. -/
structure State where
  /-- Accumulator (R30). -/
  a : Byte
  /-- Index register X (R31). -/
  x : Byte
  /-- Index register Y (R32). -/
  y : Byte
  /-- Stack pointer (R33). -/
  sp : Byte
  /-- Program counter (R34). -/
  pc : Addr
  /-- Status register (R35 to R43). -/
  p : Status
  /-- Terminal lock-up flag (R44). -/
  jammed : Bool
  /-- Transient extra-cycle counter (R45). -/
  extra : Nat
  /-- Working RAM, keyed 0 to 2047 (R47, R65). -/
  ram : Memory
  /-- The cartridge (R48). -/
  cart : Cartridge
  /-- The output event history, oldest first (R92). -/
  events : List BusEvent
  /-- The model's own field: how many external reads were made, so that each answer is a fresh free value (log 5). -/
  extReads : Nat
  /-- The cycle count the last tick returned (R126; log 9). -/
  tickCycles : Nat
  /-- The machine's parameters, constant (R7; log 1). -/
  params : Params
  deriving DecidableEq, Repr

/-- The result of a meaning or a step. -/
abbrev Result := Host.Outcome State Fault Refusal

/-- `P = 0x24`: only U and I set (R35, R376). -/
def Status.reset : Status :=
  ⟨false, false, true, false, false, true, false, false⟩

/-- One blank 16 KiB unit of program ROM, mapper 0 (log 4). -/
def Cartridge.blank : Cartridge :=
  ⟨1, [], 0, [], .horizontal, false, 0⟩

/-- The machine right after reset (R376, R51), on the blank cartridge (log 4): SP, P and PC as `reset()` leaves them, A, X, Y
(log 2) and RAM (log 3) at the values the log names. -/
def State.reset : State where
  a := 0
  x := 0
  y := 0
  sp := 0xFD
  pc := 0
  p := Status.reset
  jammed := false
  extra := 0
  ram := []
  cart := Cartridge.blank
  events := []
  extReads := 0
  tickCycles := 0
  params := Config.defaultParams

namespace State

def setA (v : Byte) (s : State) : State := { s with a := v }
def setX (v : Byte) (s : State) : State := { s with x := v }
def setY (v : Byte) (s : State) : State := { s with y := v }
def setSp (v : Byte) (s : State) : State := { s with sp := v }
def setPc (v : Addr) (s : State) : State := { s with pc := v }
def setP (v : Status) (s : State) : State := { s with p := v }
def setJammed (v : Bool) (s : State) : State := { s with jammed := v }
def setExtra (v : Nat) (s : State) : State := { s with extra := v }
def setRam (v : Memory) (s : State) : State := { s with ram := v }
def setEvents (v : List BusEvent) (s : State) : State := { s with events := v }
def setExtReads (v : Nat) (s : State) : State := { s with extReads := v }
def setTickCycles (v : Nat) (s : State) : State := { s with tickCycles := v }

end State
end Sys2Proof.Machine
end

