-- ==== Sys2Proof/Machine/Memory.lean ====
section
/-! DEFINITION. Sparse memory in one canonical form: keys strictly rising, no entry equal to what an unlisted key reads
as.  It holds the working RAM (10_state R47) and the ROM images (R48). -/

namespace Sys2Proof.Machine

/-- What an unlisted byte reads as (log 3: the power-on RAM contents are OPEN, R375). -/
def Memory.unlisted : Byte := 0

/-- The byte at key `k`. -/
def Memory.read : Memory → Nat → Byte
  | [], _ => Memory.unlisted
  | (j, w) :: rest, k => if k = j then w else Memory.read rest k

/-- Store `v` at key `k`, keeping the canonical form. -/
def Memory.write : Memory → Nat → Byte → Memory
  | [], k, v => if v = Memory.unlisted then [] else [(k, v)]
  | (j, w) :: rest, k, v =>
    if k < j then
      if v = Memory.unlisted then (j, w) :: rest else (k, v) :: (j, w) :: rest
    else if k = j then
      if v = Memory.unlisted then rest else (k, v) :: rest
    else (j, w) :: Memory.write rest k v

/-- The canonical form. -/
def Memory.wf : Memory → Bool
  | [] => true
  | (k, v) :: rest => v != Memory.unlisted && rest.all (fun cell => k < cell.1) && Memory.wf rest

/-- Every listed key is below `n`. -/
def Memory.below (n : Nat) (m : Memory) : Bool := m.all (fun cell => cell.1 < n)

/-- The bytes of a file from key `k` on, in the canonical form. -/
def Memory.ofBytesFrom : Nat → List Byte → Memory
  | _, [] => []
  | k, v :: rest =>
    if v = Memory.unlisted then Memory.ofBytesFrom (k + 1) rest
    else (k, v) :: Memory.ofBytesFrom (k + 1) rest

end Sys2Proof.Machine
end

