-- ==== Sys2Proof/Machine/Flags.lean ====
section
/-! DEFINITION. The status byte and every flag computation: packing (10_state R35), N and Z (00_scope R12), the push image
and the restore (46_stack_control R240, R241), the binary add core (42_arith_logic R170), the compare core
(44_compare_incdec R200) and the shift results (43_shift_rotate R191 to R194). -/

namespace Sys2Proof.Machine

/-- Bit `i` of a byte (R8). -/
def bit (v : Byte) (i : Nat) : Bool := v.getLsbD i

/-- `P = C | Z<<1 | I<<2 | D<<3 | B<<4 | U<<5 | V<<6 | N<<7` (R35). -/
def Status.pack (p : Status) : Byte :=
  BitVec.ofNat 8 (p.c.toNat + 2 * p.z.toNat + 4 * p.i.toNat + 8 * p.d.toNat +
    16 * p.b.toNat + 32 * p.u.toNat + 64 * p.v.toNat + 128 * p.n.toNat)

/-- The eight flags of a byte (R35). -/
def Status.unpack (v : Byte) : Status where
  c := bit v 0
  z := bit v 1
  i := bit v 2
  d := bit v 3
  b := bit v 4
  u := bit v 5
  v := bit v 6
  n := bit v 7

/-- `PushImage(P) = P | 0x30` (R240). -/
def pushImage (p : Status) : Byte := p.pack ||| 0x30

/-- The B bit that PLP and RTI leave, by the parameter `plpBreak` (R241). -/
def restoredBreak (mode : PlpBreak) (old : Status) (v : Byte) : Bool :=
  match mode with
  | .fromStack => bit v 4
  | .keep => old.b
  | .clear => false

/-- `Restore(v)` (R241): U is forced to 1, B follows `plpBreak`, the other six bits are those of `v`. -/
def restoreStatus (mode : PlpBreak) (old : Status) (v : Byte) : Status :=
  { Status.unpack v with b := restoredBreak mode old v, u := true }

/-- `setNZ(r)`: `P.Z <- (r = 0); P.N <- r[7]` (R12). -/
def State.setNZ (r : Byte) (s : State) : State :=
  s.setP { s.p with z := r == 0, n := bit r 7 }

def State.setC (c : Bool) (s : State) : State := s.setP { s.p with c := c }
def State.setI (i : Bool) (s : State) : State := s.setP { s.p with i := i }
def State.setD (d : Bool) (s : State) : State := s.setP { s.p with d := d }
def State.setV (v : Bool) (s : State) : State := s.setP { s.p with v := v }

/-- `A + m + P.C`, an exact integer (R170). -/
def addSum (a m : Byte) (c : Bool) : Nat := a.toNat + m.toNat + c.toNat

/-- Carry out of bit 7 (R170). -/
def carry7 (a m : Byte) (c : Bool) : Bool := decide (addSum a m c > 255)

/-- Carry out of bit 6 (R170). -/
def carry6 (a m : Byte) (c : Bool) : Bool :=
  decide (a.toNat % 128 + m.toNat % 128 + c.toNat > 127)

/-- `AddCore(m)`: binary whatever P.D holds (R170, R177). -/
def addCore (m : Byte) (s : State) : State :=
  let r := BitVec.ofNat 8 (addSum s.a m s.p.c)
  let c7 := carry7 s.a m s.p.c
  let c6 := carry6 s.a m s.p.c
  (((s.setC c7).setV (c6 ^^ c7)).setA r).setNZ r

/-- `Compare(R, m)` (R200). -/
def compareCore (r m : Byte) (s : State) : State :=
  (s.setC (decide (r.toNat ≥ m.toNat))).setNZ (r - m)

/-- A flag as a byte, for the bit a rotate folds in. -/
def carryByte (c : Bool) : Byte := BitVec.ofNat 8 c.toNat

/-- `(v << 1) mod 256` (R191). -/
def shiftLeft (v : Byte) : Byte := v <<< 1

/-- `v >> 1` (R192). -/
def shiftRight (v : Byte) : Byte := v >>> 1

/-- `((v << 1) | c) mod 256` (R193). -/
def rotateLeft (v : Byte) (c : Bool) : Byte := (v <<< 1) ||| carryByte c

/-- `(v >> 1) | (c << 7)` (R194). -/
def rotateRight (v : Byte) (c : Bool) : Byte := (v >>> 1) ||| (carryByte c <<< 7)

end Sys2Proof.Machine
end

