-- ==== Sys2Proof/Machine/Ops.lean ====
section
/-! DEFINITION. The named operations over memory and registers: the Bus Router (20_memory R64 to R77, R91, R92), the stack
(R81, R82), 16-bit reads (R83), the instruction fetch (40_dispatch R122), trap entry and return (60_exceptions R346, R347)
and the cycle count of a tick (40_dispatch R126). -/

namespace Sys2Proof.Machine

/-- A region of the address space (R64). -/
inductive Region where
  | ram (i : BitVec 11)
  | ppu (r : BitVec 3)
  | apu (a : Addr)
  | oamDma
  | ctrl0
  | ctrl1
  | openBus
  | cartridge (a : Addr)
  deriving DecidableEq, Repr

/-- `decode(a)`: exactly one region for each address (R64). -/
def region (a : Addr) : Region :=
  if a.toNat < 0x2000 then .ram (a.setWidth 11)
  else if a.toNat < 0x4000 then .ppu (a.setWidth 3)
  else if a.toNat < 0x4014 then .apu a
  else if a.toNat = 0x4014 then .oamDma
  else if a.toNat = 0x4015 then .apu a
  else if a.toNat = 0x4016 then .ctrl0
  else if a.toNat = 0x4017 then .ctrl1
  else if a.toNat < 0x4020 then .openBus
  else .cartridge a

/-- The fixed open-bus value (R74). -/
def openBusValue : Byte := 0

/-- `prgRom[a mod |prgRom|]` with `|prgRom| = 16384·n` (R76). -/
def Cartridge.prgRead (c : Cartridge) (a : Addr) : Byte :=
  c.prgRom.read (a.toNat % (16384 * c.prgUnits))

/-- The event that records an external read (R92). -/
def readEvent (port : ExtPort) (b : Byte) : BusEvent :=
  match port with
  | .ppu r => .ppuRead r b
  | .apu a => .apuRead a b
  | .ctrl n => .ctrlRead n b

/-- Append an event to the history (R92). -/
def record (e : BusEvent) (s : State) : State := s.setEvents (s.events ++ [e])

/-- One external read: a free answer, recorded in the history (R91, R92; log 5). -/
def extRead (port : ExtPort) (s : State) : Byte × State :=
  let b := Config.extAnswer s.extReads s.events port
  (b, (record (readEvent port b) s).setExtReads (s.extReads + 1))

/-- `MemRead(a, 1)` through the Bus Router (R64 to R76). -/
def memRead (a : Addr) (s : State) : Byte × State :=
  match region a with
  | .ram i => (s.ram.read i.toNat, s)
  | .ppu r => extRead (.ppu r) s
  | .apu p => extRead (.apu p) s
  | .oamDma => (openBusValue, s)
  | .ctrl0 => extRead (.ctrl 0) s
  | .ctrl1 => extRead (.ctrl 1) s
  | .openBus => (openBusValue, s)
  | .cartridge p => (s.cart.prgRead p, s)

/-- `MemWrite(a, 1, v)` through the Bus Router (R64 to R77). -/
def memWrite (a : Addr) (v : Byte) (s : State) : State :=
  match region a with
  | .ram i => s.setRam (s.ram.write i.toNat v)
  | .ppu r => record (.ppuWrite r v) s
  | .apu p => record (.apuWrite p v) s
  | .oamDma => record (.oamDma v) s
  | .ctrl0 => if s.params.write4016ToController then record (.ctrlWrite v) s else s
  | .ctrl1 => record (.apuWrite 0x4017 v) s
  | .openBus => s
  | .cartridge _ => s

/-- The byte an address holds, with no bus access: RAM, ROM and the open-bus addresses (R85).  A device register holds no byte
of the core's memory. -/
def byteAt (s : State) (a : Addr) : Option Byte :=
  match region a with
  | .ram i => some (s.ram.read i.toNat)
  | .ppu _ => none
  | .apu _ => none
  | .oamDma => some openBusValue
  | .ctrl0 => none
  | .ctrl1 => none
  | .openBus => some openBusValue
  | .cartridge p => some (s.cart.prgRead p)

/-- `Read16(a)`: the byte at a first, then the one at a+1, low byte first (R83). -/
def read16 (a : Addr) (s : State) : Addr × State :=
  let lo := memRead a s
  let hi := memRead (a + 1) lo.2
  (w16 hi.1 lo.1, hi.2)

/-- The address of the stack byte SP names: `0x0100 + SP` (R33). -/
def stackAddr (sp : Byte) : Addr := w16 0x01 sp

/-- `Push(v)` (R81). -/
def push (v : Byte) (s : State) : State :=
  (memWrite (stackAddr s.sp) v s).setSp (s.sp - 1)

/-- `Pull()` (R82). -/
def pull (s : State) : Byte × State :=
  memRead (stackAddr (s.sp + 1)) (s.setSp (s.sp + 1))

/-- The reset vector (R84, R357). -/
def resetVector : Addr := 0xFFFC

/-- The BRK vector (R84, R357). -/
def brkVector : Addr := 0xFFFE

/-- Trap entry, the effect of BRK after its fetch (R249, R346): the return address PC + 1 high then low, the status image,
then I set and PC loaded from the vector. -/
def takeTrap (s : State) : State :=
  let ret := s.pc + 1
  let pushed := push (pushImage s.p) (push (lo8 ret) (push (hi8 ret) s))
  let target := read16 brkVector (pushed.setI true)
  target.2.setPc target.1

/-- Trap return, the effect of RTI after its fetch (R248, R347): status, then PC low, then PC high, with no +1. -/
def returnFromTrap (s : State) : State :=
  let st := pull s
  let lo := pull (st.2.setP (restoreStatus s.params.plpBreak s.p st.1))
  let hi := pull lo.2
  hi.2.setPc (w16 hi.1 lo.1)

/-- Read the byte at PC and advance PC past it (R122). -/
def fetchByte (s : State) : Byte × State :=
  let b := memRead s.pc s
  (b.1, b.2.setPc (s.pc + 1))

/-- Fetch one instruction: the opcode byte, then the operand bytes its mode has, in address order (R122, R130).  PC is left
after the whole instruction (R125). -/
def fetchInstr (s : State) : Instr × State :=
  let opc := fetchByte s
  match form opc.1 with
  | .imp i => (i, opc.2)
  | .byte f =>
    let b := fetchByte opc.2
    (f b.1, b.2)
  | .word f =>
    let lo := fetchByte opc.2
    let hi := fetchByte lo.2
    (f (w16 hi.1 lo.1), hi.2)

/-- `extra <- 0` at the start of a tick (R122). -/
def beginTick (s : State) : State := s.setExtra 0

/-- The base cycles of a descriptor: a number, or `jamCycles` (R126, R129). -/
def baseCount (b : BaseCycles) (s : State) : Nat :=
  match b with
  | .fixed n => n
  | .jam => s.params.jamCycles

/-- `d.baseCycles + (if crossed and d.pagePenalty then 1 else 0) + extra` (R126). -/
def cycleCount (opc : Byte) (crossed : Bool) (s : State) : Nat :=
  let d := descriptorOf opc
  baseCount d.baseCycles s + (if crossed && d.pagePenalty then 1 else 0) + s.extra

/-- The end of a tick: the machine goes on, and the tick returns its cycle count (R126). -/
def endTick (opc : Byte) (crossed : Bool) (s : State) : Result :=
  .next (s.setTickCycles (cycleCount opc crossed s))

end Sys2Proof.Machine
end

