-- ==== Sys2Proof/Machine/Operands.lean ====
section
/-! DEFINITION. The twelve addressing-mode resolvers (41_addressing R140 to R152), the operand value (R153) and the access
patterns an operation handler follows (R154, R155, 40_dispatch R130). -/

namespace Sys2Proof.Machine

/-- The AddressingResult with the unindexed base (R140). -/
structure Resolved where
  ea : Addr
  crossed : Bool
  base : Addr
  deriving DecidableEq, Repr

/-- A zero-page address (R80, R103). -/
def zeroPage (b : Byte) : Addr := w16 0 b

/-- A mode with no index: `base = ea`, no crossing (R140). -/
def direct (ea : Addr) : Resolved := ⟨ea, false, ea⟩

/-- Carry out of bit 7 when the index is added to the low byte (R147). -/
def pageCrossed (base : Addr) (index : Byte) : Bool :=
  decide ((lo8 base).toNat + index.toNat > 0xFF)

/-- A 16-bit base plus an index: the carry reaches the high byte (R147, R148). -/
def indexed (base : Addr) (index : Byte) : Resolved :=
  ⟨base + index.setWidth 16, pageCrossed base index, base⟩

/-- A pointer whose high byte is read from the next address of the same page (R149, R150, R151). -/
def readPointer (p : Addr) (s : State) : Addr × State :=
  let lo := memRead p s
  let hi := memRead (w16 (hi8 p) (lo8 p + 1)) lo.2
  (w16 hi.1 lo.1, hi.2)

/-- The resolver of a mode (R141 to R152).  PC is after the instruction, whose operand bytes the fetch has read. -/
def resolve (o : Operand) (s : State) : Resolved × State :=
  match o with
  | .imp => (direct 0, s)
  | .acc => (direct 0, s)
  | .imm _ => (direct (s.pc - 1), s)
  | .zp b => (direct (zeroPage b), s)
  | .zpx b => (⟨zeroPage (b + s.x), false, zeroPage b⟩, s)
  | .zpy b => (⟨zeroPage (b + s.y), false, zeroPage b⟩, s)
  | .abs w => (direct w, s)
  | .absx w => (indexed w s.x, s)
  | .absy w => (indexed w s.y, s)
  | .ind p =>
    let t := readPointer p s
    (direct t.1, t.2)
  | .izx b =>
    let t := readPointer (zeroPage (b + s.x)) s
    (direct t.1, t.2)
  | .izy b =>
    let t := readPointer (zeroPage b) s
    (indexed t.1 s.y, t.2)
  | .rel o => (direct (s.pc + sext8 o), s)

/-- The operand value M (R153): A under acc, the instruction's own second byte under imm (read once, by the fetch: R142), else
one read of the effective address. -/
def operandByte (o : Operand) (r : Resolved) (s : State) : Byte × State :=
  match o with
  | .imp => (s.a, s)
  | .acc => (s.a, s)
  | .imm v => (v, s)
  | .zp _ => memRead r.ea s
  | .zpx _ => memRead r.ea s
  | .zpy _ => memRead r.ea s
  | .abs _ => memRead r.ea s
  | .absx _ => memRead r.ea s
  | .absy _ => memRead r.ea s
  | .ind _ => memRead r.ea s
  | .izx _ => memRead r.ea s
  | .izy _ => memRead r.ea s
  | .rel _ => memRead r.ea s

/-- An instruction with no memory operand (R141). -/
def impliedInstr (opc : Byte) (h : State → State) (s : State) : Result :=
  endTick opc false (h s)

/-- A read instruction: resolve, one data read, then the handler (R130). -/
def readInstr (opc : Byte) (h : Byte → State → State) (o : Operand) (s : State) : Result :=
  let r := resolve o s
  let m := operandByte o r.1 r.2
  endTick opc r.1.crossed (h m.1 m.2)

/-- A store: one data write, no read of the target (R155). -/
def storeInstr (opc : Byte) (value : State → Byte) (o : Operand) (s : State) : Result :=
  let r := resolve o s
  endTick opc r.1.crossed (memWrite r.1.ea (value r.2) r.2)

/-- A read-modify-write: one read, then one write of the result to the same address (R154), or A under Accumulator mode (R190).
`f` gives the result and the flags, `after` is the second micro-operation of a combined opcode (R300). -/
def rmwInstr (opc : Byte) (f : Byte → State → Byte × State) (after : Byte → State → State)
    (o : Operand) (s : State) : Result :=
  let r := resolve o s
  match o with
  | .acc =>
    let v := f r.2.a r.2
    endTick opc r.1.crossed (after v.1 (v.2.setA v.1))
  | _ =>
    let m := memRead r.1.ea r.2
    let v := f m.1 m.2
    endTick opc r.1.crossed (after v.1 (memWrite r.1.ea v.1 v.2))

/-- A documented read-modify-write has no second micro-operation. -/
def noFollowUp (_ : Byte) (s : State) : State := s

end Sys2Proof.Machine
end

