-- ==== Sys2Proof/Machine/ArithLogic.lean ====
section
/-! DEFINITION. Arithmetic and logic: ADC, SBC, AND, ORA, EOR, BIT (42_arith_logic R170 to R177). -/

namespace Sys2Proof.Machine

/-! ADC: `AddCore(M)` (R171). -/

/-- ADC #$nn (0x69), R171. -/
def execAdcImm (v : Byte) (s : State) : Result := readInstr 0x69 addCore (.imm v) s

/-- ADC $nn (0x65), R171. -/
def execAdcZp (b : Byte) (s : State) : Result := readInstr 0x65 addCore (.zp b) s

/-- ADC $nn,X (0x75), R171. -/
def execAdcZpx (b : Byte) (s : State) : Result := readInstr 0x75 addCore (.zpx b) s

/-- ADC $hhll (0x6D), R171. -/
def execAdcAbs (w : Addr) (s : State) : Result := readInstr 0x6D addCore (.abs w) s

/-- ADC $hhll,X (0x7D), R171. -/
def execAdcAbsx (w : Addr) (s : State) : Result := readInstr 0x7D addCore (.absx w) s

/-- ADC $hhll,Y (0x79), R171. -/
def execAdcAbsy (w : Addr) (s : State) : Result := readInstr 0x79 addCore (.absy w) s

/-- ADC ($nn,X) (0x61), R171. -/
def execAdcIzx (b : Byte) (s : State) : Result := readInstr 0x61 addCore (.izx b) s

/-- ADC ($nn),Y (0x71), R171. -/
def execAdcIzy (b : Byte) (s : State) : Result := readInstr 0x71 addCore (.izy b) s

/-- SBC: `AddCore(~M)` (R172). -/
def opSbc (m : Byte) (s : State) : State := addCore (~~~m) s

/-- SBC #$nn (0xE9), R172. -/
def execSbcImm (v : Byte) (s : State) : Result := readInstr 0xE9 opSbc (.imm v) s

/-- SBC $nn (0xE5), R172. -/
def execSbcZp (b : Byte) (s : State) : Result := readInstr 0xE5 opSbc (.zp b) s

/-- SBC $nn,X (0xF5), R172. -/
def execSbcZpx (b : Byte) (s : State) : Result := readInstr 0xF5 opSbc (.zpx b) s

/-- SBC $hhll (0xED), R172. -/
def execSbcAbs (w : Addr) (s : State) : Result := readInstr 0xED opSbc (.abs w) s

/-- SBC $hhll,X (0xFD), R172. -/
def execSbcAbsx (w : Addr) (s : State) : Result := readInstr 0xFD opSbc (.absx w) s

/-- SBC $hhll,Y (0xF9), R172. -/
def execSbcAbsy (w : Addr) (s : State) : Result := readInstr 0xF9 opSbc (.absy w) s

/-- SBC ($nn,X) (0xE1), R172. -/
def execSbcIzx (b : Byte) (s : State) : Result := readInstr 0xE1 opSbc (.izx b) s

/-- SBC ($nn),Y (0xF1), R172. -/
def execSbcIzy (b : Byte) (s : State) : Result := readInstr 0xF1 opSbc (.izy b) s

/-- AND: `A <- A & M; setNZ(A)` (R173). -/
def opAnd (m : Byte) (s : State) : State :=
  (s.setA (s.a &&& m)).setNZ (s.a &&& m)

/-- AND #$nn (0x29), R173. -/
def execAndImm (v : Byte) (s : State) : Result := readInstr 0x29 opAnd (.imm v) s

/-- AND $nn (0x25), R173. -/
def execAndZp (b : Byte) (s : State) : Result := readInstr 0x25 opAnd (.zp b) s

/-- AND $nn,X (0x35), R173. -/
def execAndZpx (b : Byte) (s : State) : Result := readInstr 0x35 opAnd (.zpx b) s

/-- AND $hhll (0x2D), R173. -/
def execAndAbs (w : Addr) (s : State) : Result := readInstr 0x2D opAnd (.abs w) s

/-- AND $hhll,X (0x3D), R173. -/
def execAndAbsx (w : Addr) (s : State) : Result := readInstr 0x3D opAnd (.absx w) s

/-- AND $hhll,Y (0x39), R173. -/
def execAndAbsy (w : Addr) (s : State) : Result := readInstr 0x39 opAnd (.absy w) s

/-- AND ($nn,X) (0x21), R173. -/
def execAndIzx (b : Byte) (s : State) : Result := readInstr 0x21 opAnd (.izx b) s

/-- AND ($nn),Y (0x31), R173. -/
def execAndIzy (b : Byte) (s : State) : Result := readInstr 0x31 opAnd (.izy b) s

/-- ORA: `A <- A | M; setNZ(A)` (R174). -/
def opOra (m : Byte) (s : State) : State :=
  (s.setA (s.a ||| m)).setNZ (s.a ||| m)

/-- ORA #$nn (0x09), R174. -/
def execOraImm (v : Byte) (s : State) : Result := readInstr 0x09 opOra (.imm v) s

/-- ORA $nn (0x05), R174. -/
def execOraZp (b : Byte) (s : State) : Result := readInstr 0x05 opOra (.zp b) s

/-- ORA $nn,X (0x15), R174. -/
def execOraZpx (b : Byte) (s : State) : Result := readInstr 0x15 opOra (.zpx b) s

/-- ORA $hhll (0x0D), R174. -/
def execOraAbs (w : Addr) (s : State) : Result := readInstr 0x0D opOra (.abs w) s

/-- ORA $hhll,X (0x1D), R174. -/
def execOraAbsx (w : Addr) (s : State) : Result := readInstr 0x1D opOra (.absx w) s

/-- ORA $hhll,Y (0x19), R174. -/
def execOraAbsy (w : Addr) (s : State) : Result := readInstr 0x19 opOra (.absy w) s

/-- ORA ($nn,X) (0x01), R174. -/
def execOraIzx (b : Byte) (s : State) : Result := readInstr 0x01 opOra (.izx b) s

/-- ORA ($nn),Y (0x11), R174. -/
def execOraIzy (b : Byte) (s : State) : Result := readInstr 0x11 opOra (.izy b) s

/-- EOR: `A <- A ^ M; setNZ(A)` (R175). -/
def opEor (m : Byte) (s : State) : State :=
  (s.setA (s.a ^^^ m)).setNZ (s.a ^^^ m)

/-- EOR #$nn (0x49), R175. -/
def execEorImm (v : Byte) (s : State) : Result := readInstr 0x49 opEor (.imm v) s

/-- EOR $nn (0x45), R175. -/
def execEorZp (b : Byte) (s : State) : Result := readInstr 0x45 opEor (.zp b) s

/-- EOR $nn,X (0x55), R175. -/
def execEorZpx (b : Byte) (s : State) : Result := readInstr 0x55 opEor (.zpx b) s

/-- EOR $hhll (0x4D), R175. -/
def execEorAbs (w : Addr) (s : State) : Result := readInstr 0x4D opEor (.abs w) s

/-- EOR $hhll,X (0x5D), R175. -/
def execEorAbsx (w : Addr) (s : State) : Result := readInstr 0x5D opEor (.absx w) s

/-- EOR $hhll,Y (0x59), R175. -/
def execEorAbsy (w : Addr) (s : State) : Result := readInstr 0x59 opEor (.absy w) s

/-- EOR ($nn,X) (0x41), R175. -/
def execEorIzx (b : Byte) (s : State) : Result := readInstr 0x41 opEor (.izx b) s

/-- EOR ($nn),Y (0x51), R175. -/
def execEorIzy (b : Byte) (s : State) : Result := readInstr 0x51 opEor (.izy b) s

/-- BIT: `P.Z <- ((A & M) = 0); P.N <- M[7]; P.V <- M[6]` (R176). -/
def opBit (m : Byte) (s : State) : State :=
  s.setP { s.p with z := (s.a &&& m) == 0, n := bit m 7, v := bit m 6 }

/-- BIT $nn (0x24), R176. -/
def execBitZp (b : Byte) (s : State) : Result := readInstr 0x24 opBit (.zp b) s

/-- BIT $hhll (0x2C), R176. -/
def execBitAbs (w : Addr) (s : State) : Result := readInstr 0x2C opBit (.abs w) s

end Sys2Proof.Machine
end

