-- ==== Sys2Proof/Machine/Branches.lean ====
section
/-! DEFINITION. The eight conditional branches (45_branches R220 to R228). -/

namespace Sys2Proof.Machine

/-- `Branch(cond)` on a resolved target: +1 cycle taken, +1 more if the target is on another page than the next instruction
(R220). -/
def branchTo (cond : Bool) (ea : Addr) (s : State) : State :=
  if cond then
    (s.setExtra (s.extra + 1 + if hi8 ea = hi8 s.pc then 0 else 1)).setPc ea
  else s

/-- A branch instruction: the Relative resolver, then `Branch(cond)` (R220). -/
def branchInstr (opc : Byte) (cond : Bool) (o : Operand) (s : State) : Result :=
  let r := resolve o s
  endTick opc r.1.crossed (branchTo cond r.1.ea r.2)

/-- BCC target (0x90), R221. -/
def execBcc (o : Byte) (s : State) : Result := branchInstr 0x90 (!s.p.c) (.rel o) s

/-- BCS target (0xB0), R222. -/
def execBcs (o : Byte) (s : State) : Result := branchInstr 0xB0 s.p.c (.rel o) s

/-- BEQ target (0xF0), R223. -/
def execBeq (o : Byte) (s : State) : Result := branchInstr 0xF0 s.p.z (.rel o) s

/-- BNE target (0xD0), R224. -/
def execBne (o : Byte) (s : State) : Result := branchInstr 0xD0 (!s.p.z) (.rel o) s

/-- BMI target (0x30), R225. -/
def execBmi (o : Byte) (s : State) : Result := branchInstr 0x30 s.p.n (.rel o) s

/-- BPL target (0x10), R226. -/
def execBpl (o : Byte) (s : State) : Result := branchInstr 0x10 (!s.p.n) (.rel o) s

/-- BVC target (0x50), R227. -/
def execBvc (o : Byte) (s : State) : Result := branchInstr 0x50 (!s.p.v) (.rel o) s

/-- BVS target (0x70), R228. -/
def execBvs (o : Byte) (s : State) : Result := branchInstr 0x70 s.p.v (.rel o) s

end Sys2Proof.Machine
end

