-- ==== Sys2Proof/Machine/CompareIncDec.lean ====
section
/-! DEFINITION. Compare, increment, decrement: CMP, CPX, CPY, INC, DEC, INX, INY, DEX, DEY (44_compare_incdec R200 to R209). -/

namespace Sys2Proof.Machine

/-- CMP: `Compare(A, M)` (R201). -/
def opCmp (m : Byte) (s : State) : State := compareCore s.a m s

/-- CMP #$nn (0xC9), R201. -/
def execCmpImm (v : Byte) (s : State) : Result := readInstr 0xC9 opCmp (.imm v) s

/-- CMP $nn (0xC5), R201. -/
def execCmpZp (b : Byte) (s : State) : Result := readInstr 0xC5 opCmp (.zp b) s

/-- CMP $nn,X (0xD5), R201. -/
def execCmpZpx (b : Byte) (s : State) : Result := readInstr 0xD5 opCmp (.zpx b) s

/-- CMP $hhll (0xCD), R201. -/
def execCmpAbs (w : Addr) (s : State) : Result := readInstr 0xCD opCmp (.abs w) s

/-- CMP $hhll,X (0xDD), R201. -/
def execCmpAbsx (w : Addr) (s : State) : Result := readInstr 0xDD opCmp (.absx w) s

/-- CMP $hhll,Y (0xD9), R201. -/
def execCmpAbsy (w : Addr) (s : State) : Result := readInstr 0xD9 opCmp (.absy w) s

/-- CMP ($nn,X) (0xC1), R201. -/
def execCmpIzx (b : Byte) (s : State) : Result := readInstr 0xC1 opCmp (.izx b) s

/-- CMP ($nn),Y (0xD1), R201. -/
def execCmpIzy (b : Byte) (s : State) : Result := readInstr 0xD1 opCmp (.izy b) s

/-- CPX: `Compare(X, M)` (R202). -/
def opCpx (m : Byte) (s : State) : State := compareCore s.x m s

/-- CPX #$nn (0xE0), R202. -/
def execCpxImm (v : Byte) (s : State) : Result := readInstr 0xE0 opCpx (.imm v) s

/-- CPX $nn (0xE4), R202. -/
def execCpxZp (b : Byte) (s : State) : Result := readInstr 0xE4 opCpx (.zp b) s

/-- CPX $hhll (0xEC), R202. -/
def execCpxAbs (w : Addr) (s : State) : Result := readInstr 0xEC opCpx (.abs w) s

/-- CPY: `Compare(Y, M)` (R203). -/
def opCpy (m : Byte) (s : State) : State := compareCore s.y m s

/-- CPY #$nn (0xC0), R203. -/
def execCpyImm (v : Byte) (s : State) : Result := readInstr 0xC0 opCpy (.imm v) s

/-- CPY $nn (0xC4), R203. -/
def execCpyZp (b : Byte) (s : State) : Result := readInstr 0xC4 opCpy (.zp b) s

/-- CPY $hhll (0xCC), R203. -/
def execCpyAbs (w : Addr) (s : State) : Result := readInstr 0xCC opCpy (.abs w) s

/-- INC of a value (R204). -/
def stepInc (v : Byte) (s : State) : Byte × State := (v + 1, s.setNZ (v + 1))

/-- INC $nn (0xE6), R204. -/
def execIncZp (b : Byte) (s : State) : Result := rmwInstr 0xE6 stepInc noFollowUp (.zp b) s

/-- INC $nn,X (0xF6), R204. -/
def execIncZpx (b : Byte) (s : State) : Result := rmwInstr 0xF6 stepInc noFollowUp (.zpx b) s

/-- INC $hhll (0xEE), R204. -/
def execIncAbs (w : Addr) (s : State) : Result := rmwInstr 0xEE stepInc noFollowUp (.abs w) s

/-- INC $hhll,X (0xFE), R204. -/
def execIncAbsx (w : Addr) (s : State) : Result := rmwInstr 0xFE stepInc noFollowUp (.absx w) s

/-- DEC of a value (R205). -/
def stepDec (v : Byte) (s : State) : Byte × State := (v - 1, s.setNZ (v - 1))

/-- DEC $nn (0xC6), R205. -/
def execDecZp (b : Byte) (s : State) : Result := rmwInstr 0xC6 stepDec noFollowUp (.zp b) s

/-- DEC $nn,X (0xD6), R205. -/
def execDecZpx (b : Byte) (s : State) : Result := rmwInstr 0xD6 stepDec noFollowUp (.zpx b) s

/-- DEC $hhll (0xCE), R205. -/
def execDecAbs (w : Addr) (s : State) : Result := rmwInstr 0xCE stepDec noFollowUp (.abs w) s

/-- DEC $hhll,X (0xDE), R205. -/
def execDecAbsx (w : Addr) (s : State) : Result := rmwInstr 0xDE stepDec noFollowUp (.absx w) s

/-- INX: `X <- (X + 1) mod 256; setNZ(X)` (R206). -/
def opInx (s : State) : State := (s.setX (s.x + 1)).setNZ (s.x + 1)

/-- INX (0xE8), R206. -/
def execInx (s : State) : Result := impliedInstr 0xE8 opInx s

/-- INY: `Y <- (Y + 1) mod 256; setNZ(Y)` (R207). -/
def opIny (s : State) : State := (s.setY (s.y + 1)).setNZ (s.y + 1)

/-- INY (0xC8), R207. -/
def execIny (s : State) : Result := impliedInstr 0xC8 opIny s

/-- DEX: `X <- (X - 1) mod 256; setNZ(X)` (R208). -/
def opDex (s : State) : State := (s.setX (s.x - 1)).setNZ (s.x - 1)

/-- DEX (0xCA), R208. -/
def execDex (s : State) : Result := impliedInstr 0xCA opDex s

/-- DEY: `Y <- (Y - 1) mod 256; setNZ(Y)` (R209). -/
def opDey (s : State) : State := (s.setY (s.y - 1)).setNZ (s.y - 1)

/-- DEY (0x88), R209. -/
def execDey (s : State) : Result := impliedInstr 0x88 opDey s

end Sys2Proof.Machine
end

