-- ==== Sys2Proof/Machine/FlagsNop.lean ====
section
/-! DEFINITION. Flag instructions and every NOP form (48_flags_nop R280 to R287). -/

namespace Sys2Proof.Machine

/-- CLC (R280). -/
def opClc (s : State) : State := s.setC false

/-- CLC (0x18), R280. -/
def execClc (s : State) : Result := impliedInstr 0x18 opClc s

/-- SEC (R281). -/
def opSec (s : State) : State := s.setC true

/-- SEC (0x38), R281. -/
def execSec (s : State) : Result := impliedInstr 0x38 opSec s

/-- CLI (R282). -/
def opCli (s : State) : State := s.setI false

/-- CLI (0x58), R282. -/
def execCli (s : State) : Result := impliedInstr 0x58 opCli s

/-- SEI (R283). -/
def opSei (s : State) : State := s.setI true

/-- SEI (0x78), R283. -/
def execSei (s : State) : Result := impliedInstr 0x78 opSei s

/-- CLD (R284). -/
def opCld (s : State) : State := s.setD false

/-- CLD (0xD8), R284. -/
def execCld (s : State) : Result := impliedInstr 0xD8 opCld s

/-- SED (R285). -/
def opSed (s : State) : State := s.setD true

/-- SED (0xF8), R285. -/
def execSed (s : State) : Result := impliedInstr 0xF8 opSed s

/-- CLV (R286). -/
def opClv (s : State) : State := s.setV false

/-- CLV (0xB8), R286. -/
def execClv (s : State) : Result := impliedInstr 0xB8 opClv s

/-- Whether a NOP form reads its operand: a memory operand, if `nopReadsOperand` (R287). -/
def nopReads (o : Operand) (s : State) : Bool :=
  match o.mode with
  | .zp => s.params.nopReadsOperand
  | .zpx => s.params.nopReadsOperand
  | .abs => s.params.nopReadsOperand
  | .absx => s.params.nopReadsOperand
  | _ => false

/-- NOP: the resolver runs, and a memory operand is read and discarded if `nopReadsOperand` (R287). -/
def nopInstr (opc : Byte) (o : Operand) (s : State) : Result :=
  let r := resolve o s
  endTick opc r.1.crossed (if nopReads o r.2 then (memRead r.1.ea r.2).2 else r.2)

/-- NOP (0x1A), R287. -/
def execNopImp1A (s : State) : Result := nopInstr 0x1A .imp s

/-- NOP (0x3A), R287. -/
def execNopImp3A (s : State) : Result := nopInstr 0x3A .imp s

/-- NOP (0x5A), R287. -/
def execNopImp5A (s : State) : Result := nopInstr 0x5A .imp s

/-- NOP (0x7A), R287. -/
def execNopImp7A (s : State) : Result := nopInstr 0x7A .imp s

/-- NOP (0xDA), R287. -/
def execNopImpDA (s : State) : Result := nopInstr 0xDA .imp s

/-- NOP (0xEA), R287. -/
def execNopImpEA (s : State) : Result := nopInstr 0xEA .imp s

/-- NOP (0xFA), R287. -/
def execNopImpFA (s : State) : Result := nopInstr 0xFA .imp s

/-- NOP #$nn (0x80), R287. -/
def execNopImm80 (v : Byte) (s : State) : Result := nopInstr 0x80 (.imm v) s

/-- NOP #$nn (0x82), R287. -/
def execNopImm82 (v : Byte) (s : State) : Result := nopInstr 0x82 (.imm v) s

/-- NOP #$nn (0x89), R287. -/
def execNopImm89 (v : Byte) (s : State) : Result := nopInstr 0x89 (.imm v) s

/-- NOP #$nn (0xC2), R287. -/
def execNopImmC2 (v : Byte) (s : State) : Result := nopInstr 0xC2 (.imm v) s

/-- NOP #$nn (0xE2), R287. -/
def execNopImmE2 (v : Byte) (s : State) : Result := nopInstr 0xE2 (.imm v) s

/-- NOP $nn (0x04), R287. -/
def execNopZp04 (b : Byte) (s : State) : Result := nopInstr 0x04 (.zp b) s

/-- NOP $nn (0x44), R287. -/
def execNopZp44 (b : Byte) (s : State) : Result := nopInstr 0x44 (.zp b) s

/-- NOP $nn (0x64), R287. -/
def execNopZp64 (b : Byte) (s : State) : Result := nopInstr 0x64 (.zp b) s

/-- NOP $nn,X (0x14), R287. -/
def execNopZpx14 (b : Byte) (s : State) : Result := nopInstr 0x14 (.zpx b) s

/-- NOP $nn,X (0x34), R287. -/
def execNopZpx34 (b : Byte) (s : State) : Result := nopInstr 0x34 (.zpx b) s

/-- NOP $nn,X (0x54), R287. -/
def execNopZpx54 (b : Byte) (s : State) : Result := nopInstr 0x54 (.zpx b) s

/-- NOP $nn,X (0x74), R287. -/
def execNopZpx74 (b : Byte) (s : State) : Result := nopInstr 0x74 (.zpx b) s

/-- NOP $nn,X (0xD4), R287. -/
def execNopZpxD4 (b : Byte) (s : State) : Result := nopInstr 0xD4 (.zpx b) s

/-- NOP $nn,X (0xF4), R287. -/
def execNopZpxF4 (b : Byte) (s : State) : Result := nopInstr 0xF4 (.zpx b) s

/-- NOP $hhll (0x0C), R287. -/
def execNopAbs0C (w : Addr) (s : State) : Result := nopInstr 0x0C (.abs w) s

/-- NOP $hhll,X (0x1C), R287. -/
def execNopAbsx1C (w : Addr) (s : State) : Result := nopInstr 0x1C (.absx w) s

/-- NOP $hhll,X (0x3C), R287. -/
def execNopAbsx3C (w : Addr) (s : State) : Result := nopInstr 0x3C (.absx w) s

/-- NOP $hhll,X (0x5C), R287. -/
def execNopAbsx5C (w : Addr) (s : State) : Result := nopInstr 0x5C (.absx w) s

/-- NOP $hhll,X (0x7C), R287. -/
def execNopAbsx7C (w : Addr) (s : State) : Result := nopInstr 0x7C (.absx w) s

/-- NOP $hhll,X (0xDC), R287. -/
def execNopAbsxDC (w : Addr) (s : State) : Result := nopInstr 0xDC (.absx w) s

/-- NOP $hhll,X (0xFC), R287. -/
def execNopAbsxFC (w : Addr) (s : State) : Result := nopInstr 0xFC (.absx w) s

end Sys2Proof.Machine
end

