-- ==== Sys2Proof/Machine/ShiftRotate.lean ====
section
/-! DEFINITION. Shifts and rotates: ASL, LSR, ROL, ROR (43_shift_rotate R190 to R194). -/

namespace Sys2Proof.Machine

/-- ASL of a value: the result, with C and N Z set (R191). -/
def stepAsl (v : Byte) (s : State) : Byte × State :=
  (shiftLeft v, (s.setC (bit v 7)).setNZ (shiftLeft v))

/-- ASL A (0x0A), R191. -/
def execAslAcc (s : State) : Result := rmwInstr 0x0A stepAsl noFollowUp .acc s

/-- ASL $nn (0x06), R191. -/
def execAslZp (b : Byte) (s : State) : Result := rmwInstr 0x06 stepAsl noFollowUp (.zp b) s

/-- ASL $nn,X (0x16), R191. -/
def execAslZpx (b : Byte) (s : State) : Result := rmwInstr 0x16 stepAsl noFollowUp (.zpx b) s

/-- ASL $hhll (0x0E), R191. -/
def execAslAbs (w : Addr) (s : State) : Result := rmwInstr 0x0E stepAsl noFollowUp (.abs w) s

/-- ASL $hhll,X (0x1E), R191. -/
def execAslAbsx (w : Addr) (s : State) : Result := rmwInstr 0x1E stepAsl noFollowUp (.absx w) s

/-- LSR of a value (R192). -/
def stepLsr (v : Byte) (s : State) : Byte × State :=
  (shiftRight v, (s.setC (bit v 0)).setNZ (shiftRight v))

/-- LSR A (0x4A), R192. -/
def execLsrAcc (s : State) : Result := rmwInstr 0x4A stepLsr noFollowUp .acc s

/-- LSR $nn (0x46), R192. -/
def execLsrZp (b : Byte) (s : State) : Result := rmwInstr 0x46 stepLsr noFollowUp (.zp b) s

/-- LSR $nn,X (0x56), R192. -/
def execLsrZpx (b : Byte) (s : State) : Result := rmwInstr 0x56 stepLsr noFollowUp (.zpx b) s

/-- LSR $hhll (0x4E), R192. -/
def execLsrAbs (w : Addr) (s : State) : Result := rmwInstr 0x4E stepLsr noFollowUp (.abs w) s

/-- LSR $hhll,X (0x5E), R192. -/
def execLsrAbsx (w : Addr) (s : State) : Result := rmwInstr 0x5E stepLsr noFollowUp (.absx w) s

/-- ROL of a value: the old carry enters bit 0 (R193). -/
def stepRol (v : Byte) (s : State) : Byte × State :=
  (rotateLeft v s.p.c, (s.setC (bit v 7)).setNZ (rotateLeft v s.p.c))

/-- ROL A (0x2A), R193. -/
def execRolAcc (s : State) : Result := rmwInstr 0x2A stepRol noFollowUp .acc s

/-- ROL $nn (0x26), R193. -/
def execRolZp (b : Byte) (s : State) : Result := rmwInstr 0x26 stepRol noFollowUp (.zp b) s

/-- ROL $nn,X (0x36), R193. -/
def execRolZpx (b : Byte) (s : State) : Result := rmwInstr 0x36 stepRol noFollowUp (.zpx b) s

/-- ROL $hhll (0x2E), R193. -/
def execRolAbs (w : Addr) (s : State) : Result := rmwInstr 0x2E stepRol noFollowUp (.abs w) s

/-- ROL $hhll,X (0x3E), R193. -/
def execRolAbsx (w : Addr) (s : State) : Result := rmwInstr 0x3E stepRol noFollowUp (.absx w) s

/-- ROR of a value: the old carry enters bit 7 (R194). -/
def stepRor (v : Byte) (s : State) : Byte × State :=
  (rotateRight v s.p.c, (s.setC (bit v 0)).setNZ (rotateRight v s.p.c))

/-- ROR A (0x6A), R194. -/
def execRorAcc (s : State) : Result := rmwInstr 0x6A stepRor noFollowUp .acc s

/-- ROR $nn (0x66), R194. -/
def execRorZp (b : Byte) (s : State) : Result := rmwInstr 0x66 stepRor noFollowUp (.zp b) s

/-- ROR $nn,X (0x76), R194. -/
def execRorZpx (b : Byte) (s : State) : Result := rmwInstr 0x76 stepRor noFollowUp (.zpx b) s

/-- ROR $hhll (0x6E), R194. -/
def execRorAbs (w : Addr) (s : State) : Result := rmwInstr 0x6E stepRor noFollowUp (.abs w) s

/-- ROR $hhll,X (0x7E), R194. -/
def execRorAbsx (w : Addr) (s : State) : Result := rmwInstr 0x7E stepRor noFollowUp (.absx w) s

end Sys2Proof.Machine
end

