-- ==== Sys2Proof/Machine/StackControl.lean ====
section
/-! DEFINITION. Stack and control transfer: PHA, PHP, PLA, PLP, JSR, RTS, RTI, BRK, JMP (46_stack_control R240 to R250).  BRK and RTI are the
trap entry and return of Machine/Ops.lean. -/

namespace Sys2Proof.Machine

/-- PHA: `Push(A)` (R242). -/
def opPha (s : State) : State := push s.a s

/-- PHA (0x48), R242. -/
def execPha (s : State) : Result := impliedInstr 0x48 opPha s

/-- PHP: `Push(PushImage(P))` (R243). -/
def opPhp (s : State) : State := push (pushImage s.p) s

/-- PHP (0x08), R243. -/
def execPhp (s : State) : Result := impliedInstr 0x08 opPhp s

/-- PLA: `A <- Pull(); setNZ(A)` (R244). -/
def opPla (s : State) : State :=
  let v := pull s
  (v.2.setA v.1).setNZ v.1

/-- PLA (0x68), R244. -/
def execPla (s : State) : Result := impliedInstr 0x68 opPla s

/-- PLP: `Restore(Pull())` (R245). -/
def opPlp (s : State) : State :=
  let v := pull s
  v.2.setP (restoreStatus s.params.plpBreak s.p v.1)

/-- PLP (0x28), R245. -/
def execPlp (s : State) : Result := impliedInstr 0x28 opPlp s

/-- JSR: push (return address - 1) high then low, and jump (R246). -/
def jsrInstr (opc : Byte) (o : Operand) (s : State) : Result :=
  let r := resolve o s
  let ret := r.2.pc - 1
  endTick opc r.1.crossed ((push (lo8 ret) (push (hi8 ret) r.2)).setPc r.1.ea)

/-- JSR $hhll (0x20), R246. -/
def execJsrAbs (w : Addr) (s : State) : Result := jsrInstr 0x20 (.abs w) s

/-- RTS: pull low then high and add 1 (R247). -/
def opRts (s : State) : State :=
  let lo := pull s
  let hi := pull lo.2
  hi.2.setPc (w16 hi.1 lo.1 + 1)

/-- RTS (0x60), R247. -/
def execRts (s : State) : Result := impliedInstr 0x60 opRts s

/-- RTI (0x40), R248. -/
def execRti (s : State) : Result := impliedInstr 0x40 returnFromTrap s

/-- BRK (0x00), R249. -/
def execBrk (s : State) : Result := impliedInstr 0x00 takeTrap s

/-- JMP: `PC <- ea` (R250). -/
def jmpInstr (opc : Byte) (o : Operand) (s : State) : Result :=
  let r := resolve o s
  endTick opc r.1.crossed (r.2.setPc r.1.ea)

/-- JMP $hhll (0x4C), R250. -/
def execJmpAbs (w : Addr) (s : State) : Result := jmpInstr 0x4C (.abs w) s

/-- JMP ($hhll) (0x6C), R250. -/
def execJmpInd (w : Addr) (s : State) : Result := jmpInstr 0x6C (.ind w) s

end Sys2Proof.Machine
end

