-- ==== Sys2Proof/Machine/TransferLoadStore.lean ====
section
/-! DEFINITION. Transfers, loads and stores (47_transfer_load_store R260 to R271). -/

namespace Sys2Proof.Machine

/-- TAX (R260). -/
def opTax (s : State) : State := (s.setX s.a).setNZ s.a

/-- TAX (0xAA), R260. -/
def execTax (s : State) : Result := impliedInstr 0xAA opTax s

/-- TAY (R261). -/
def opTay (s : State) : State := (s.setY s.a).setNZ s.a

/-- TAY (0xA8), R261. -/
def execTay (s : State) : Result := impliedInstr 0xA8 opTay s

/-- TXA (R262). -/
def opTxa (s : State) : State := (s.setA s.x).setNZ s.x

/-- TXA (0x8A), R262. -/
def execTxa (s : State) : Result := impliedInstr 0x8A opTxa s

/-- TYA (R263). -/
def opTya (s : State) : State := (s.setA s.y).setNZ s.y

/-- TYA (0x98), R263. -/
def execTya (s : State) : Result := impliedInstr 0x98 opTya s

/-- TSX (R264). -/
def opTsx (s : State) : State := (s.setX s.sp).setNZ s.sp

/-- TSX (0xBA), R264. -/
def execTsx (s : State) : Result := impliedInstr 0xBA opTsx s

/-- TXS touches no flag (R265). -/
def opTxs (s : State) : State := s.setSp s.x

/-- TXS (0x9A), R265. -/
def execTxs (s : State) : Result := impliedInstr 0x9A opTxs s

/-- LDA: `A <- M; setNZ(A)` (R266). -/
def opLda (m : Byte) (s : State) : State := (s.setA m).setNZ m

/-- LDA #$nn (0xA9), R266. -/
def execLdaImm (v : Byte) (s : State) : Result := readInstr 0xA9 opLda (.imm v) s

/-- LDA $nn (0xA5), R266. -/
def execLdaZp (b : Byte) (s : State) : Result := readInstr 0xA5 opLda (.zp b) s

/-- LDA $nn,X (0xB5), R266. -/
def execLdaZpx (b : Byte) (s : State) : Result := readInstr 0xB5 opLda (.zpx b) s

/-- LDA $hhll (0xAD), R266. -/
def execLdaAbs (w : Addr) (s : State) : Result := readInstr 0xAD opLda (.abs w) s

/-- LDA $hhll,X (0xBD), R266. -/
def execLdaAbsx (w : Addr) (s : State) : Result := readInstr 0xBD opLda (.absx w) s

/-- LDA $hhll,Y (0xB9), R266. -/
def execLdaAbsy (w : Addr) (s : State) : Result := readInstr 0xB9 opLda (.absy w) s

/-- LDA ($nn,X) (0xA1), R266. -/
def execLdaIzx (b : Byte) (s : State) : Result := readInstr 0xA1 opLda (.izx b) s

/-- LDA ($nn),Y (0xB1), R266. -/
def execLdaIzy (b : Byte) (s : State) : Result := readInstr 0xB1 opLda (.izy b) s

/-- LDX: `X <- M; setNZ(X)` (R267). -/
def opLdx (m : Byte) (s : State) : State := (s.setX m).setNZ m

/-- LDX #$nn (0xA2), R267. -/
def execLdxImm (v : Byte) (s : State) : Result := readInstr 0xA2 opLdx (.imm v) s

/-- LDX $nn (0xA6), R267. -/
def execLdxZp (b : Byte) (s : State) : Result := readInstr 0xA6 opLdx (.zp b) s

/-- LDX $nn,Y (0xB6), R267. -/
def execLdxZpy (b : Byte) (s : State) : Result := readInstr 0xB6 opLdx (.zpy b) s

/-- LDX $hhll (0xAE), R267. -/
def execLdxAbs (w : Addr) (s : State) : Result := readInstr 0xAE opLdx (.abs w) s

/-- LDX $hhll,Y (0xBE), R267. -/
def execLdxAbsy (w : Addr) (s : State) : Result := readInstr 0xBE opLdx (.absy w) s

/-- LDY: `Y <- M; setNZ(Y)` (R268). -/
def opLdy (m : Byte) (s : State) : State := (s.setY m).setNZ m

/-- LDY #$nn (0xA0), R268. -/
def execLdyImm (v : Byte) (s : State) : Result := readInstr 0xA0 opLdy (.imm v) s

/-- LDY $nn (0xA4), R268. -/
def execLdyZp (b : Byte) (s : State) : Result := readInstr 0xA4 opLdy (.zp b) s

/-- LDY $nn,X (0xB4), R268. -/
def execLdyZpx (b : Byte) (s : State) : Result := readInstr 0xB4 opLdy (.zpx b) s

/-- LDY $hhll (0xAC), R268. -/
def execLdyAbs (w : Addr) (s : State) : Result := readInstr 0xAC opLdy (.abs w) s

/-- LDY $hhll,X (0xBC), R268. -/
def execLdyAbsx (w : Addr) (s : State) : Result := readInstr 0xBC opLdy (.absx w) s

/-! STA, STX, STY: `MemWrite(ea, 1, register)` (R269, R270, R271). -/

/-- STA $nn (0x85), R269. -/
def execStaZp (b : Byte) (s : State) : Result := storeInstr 0x85 State.a (.zp b) s

/-- STA $nn,X (0x95), R269. -/
def execStaZpx (b : Byte) (s : State) : Result := storeInstr 0x95 State.a (.zpx b) s

/-- STA $hhll (0x8D), R269. -/
def execStaAbs (w : Addr) (s : State) : Result := storeInstr 0x8D State.a (.abs w) s

/-- STA $hhll,X (0x9D), R269. -/
def execStaAbsx (w : Addr) (s : State) : Result := storeInstr 0x9D State.a (.absx w) s

/-- STA $hhll,Y (0x99), R269. -/
def execStaAbsy (w : Addr) (s : State) : Result := storeInstr 0x99 State.a (.absy w) s

/-- STA ($nn,X) (0x81), R269. -/
def execStaIzx (b : Byte) (s : State) : Result := storeInstr 0x81 State.a (.izx b) s

/-- STA ($nn),Y (0x91), R269. -/
def execStaIzy (b : Byte) (s : State) : Result := storeInstr 0x91 State.a (.izy b) s

/-- STX $nn (0x86), R270. -/
def execStxZp (b : Byte) (s : State) : Result := storeInstr 0x86 State.x (.zp b) s

/-- STX $nn,Y (0x96), R270. -/
def execStxZpy (b : Byte) (s : State) : Result := storeInstr 0x96 State.x (.zpy b) s

/-- STX $hhll (0x8E), R270. -/
def execStxAbs (w : Addr) (s : State) : Result := storeInstr 0x8E State.x (.abs w) s

/-- STY $nn (0x84), R271. -/
def execStyZp (b : Byte) (s : State) : Result := storeInstr 0x84 State.y (.zp b) s

/-- STY $nn,X (0x94), R271. -/
def execStyZpx (b : Byte) (s : State) : Result := storeInstr 0x94 State.y (.zpx b) s

/-- STY $hhll (0x8C), R271. -/
def execStyAbs (w : Addr) (s : State) : Result := storeInstr 0x8C State.y (.abs w) s

end Sys2Proof.Machine
end

