-- ==== Sys2Proof/Machine/Undocumented.lean ====
section
/-! DEFINITION. The undocumented opcodes and JAM (49_undocumented R300 to R322).  A combined opcode is two documented micro-operations in one
tick (R300). -/

namespace Sys2Proof.Machine

/-- `H+1`: the high byte of the unindexed base address, plus one (R322). -/
def highPlusOne (r : Resolved) : Byte := hi8 r.base + 1

/-- The address `SHxStore` writes value `v` to (R322). -/
def shxAddress (glitch : Bool) (r : Resolved) (v : Byte) : Addr :=
  if r.crossed && glitch then w16 v (lo8 r.ea) else r.ea

/-- `SHxStore(v0)` (R322). -/
def shxStore (v0 : Byte) (r : Resolved) (s : State) : State :=
  let v := v0 &&& highPlusOne r
  memWrite (shxAddress s.params.shxAddrGlitch r v) v s

/-- An instruction that ends in `SHxStore`; `first` is what it does before (TAS writes SP). -/
def shxInstr (opc : Byte) (first : State → State) (value : State → Byte) (o : Operand)
    (s : State) : Result :=
  let r := resolve o s
  let t := first r.2
  endTick opc r.1.crossed (shxStore (value t) r.1 t)

/-- SHA, SHX and SHY write no register. -/
def keepSp (s : State) : State := s

/-- ALR: `t <- A & M; P.C <- t[0]; A <- t >> 1; setNZ(A)` (R301). -/
def opAlr (m : Byte) (s : State) : State :=
  let t := s.a &&& m
  ((s.setC (bit t 0)).setA (shiftRight t)).setNZ (shiftRight t)

/-- ALR #$nn (0x4B), R301. -/
def execAlrImm (v : Byte) (s : State) : Result := readInstr 0x4B opAlr (.imm v) s

/-- ANC: `A <- A & M; setNZ(A); P.C <- A[7]` (R302). -/
def opAnc (m : Byte) (s : State) : State :=
  let t := s.a &&& m
  ((s.setA t).setNZ t).setC (bit t 7)

/-- ANC #$nn (0x0B), R302. -/
def execAncImm0B (v : Byte) (s : State) : Result := readInstr 0x0B opAnc (.imm v) s

/-- ANC #$nn (0x2B), R302. -/
def execAncImm2B (v : Byte) (s : State) : Result := readInstr 0x2B opAnc (.imm v) s

/-- ARR: AND, ROR, then `P.C <- r[6]; P.V <- r[6] ^ r[5]`; P.D is not read (R303). -/
def opArr (m : Byte) (s : State) : State :=
  let r := rotateRight (s.a &&& m) s.p.c
  (((s.setA r).setNZ r).setC (bit r 6)).setV (bit r 6 ^^ bit r 5)

/-- ARR #$nn (0x6B), R303. -/
def execArrImm (v : Byte) (s : State) : Result := readInstr 0x6B opArr (.imm v) s

/-! DCP: DEC of memory, then CMP with the value written (R304). -/

/-- DCP $nn (0xC7), R304. -/
def execDcpZp (b : Byte) (s : State) : Result := rmwInstr 0xC7 stepDec opCmp (.zp b) s

/-- DCP $nn,X (0xD7), R304. -/
def execDcpZpx (b : Byte) (s : State) : Result := rmwInstr 0xD7 stepDec opCmp (.zpx b) s

/-- DCP $hhll (0xCF), R304. -/
def execDcpAbs (w : Addr) (s : State) : Result := rmwInstr 0xCF stepDec opCmp (.abs w) s

/-- DCP $hhll,X (0xDF), R304. -/
def execDcpAbsx (w : Addr) (s : State) : Result := rmwInstr 0xDF stepDec opCmp (.absx w) s

/-- DCP $hhll,Y (0xDB), R304. -/
def execDcpAbsy (w : Addr) (s : State) : Result := rmwInstr 0xDB stepDec opCmp (.absy w) s

/-- DCP ($nn,X) (0xC3), R304. -/
def execDcpIzx (b : Byte) (s : State) : Result := rmwInstr 0xC3 stepDec opCmp (.izx b) s

/-- DCP ($nn),Y (0xD3), R304. -/
def execDcpIzy (b : Byte) (s : State) : Result := rmwInstr 0xD3 stepDec opCmp (.izy b) s

/-! ISC: INC of memory, then SBC of the value written (R305). -/

/-- ISC $nn (0xE7), R305. -/
def execIscZp (b : Byte) (s : State) : Result := rmwInstr 0xE7 stepInc opSbc (.zp b) s

/-- ISC $nn,X (0xF7), R305. -/
def execIscZpx (b : Byte) (s : State) : Result := rmwInstr 0xF7 stepInc opSbc (.zpx b) s

/-- ISC $hhll (0xEF), R305. -/
def execIscAbs (w : Addr) (s : State) : Result := rmwInstr 0xEF stepInc opSbc (.abs w) s

/-- ISC $hhll,X (0xFF), R305. -/
def execIscAbsx (w : Addr) (s : State) : Result := rmwInstr 0xFF stepInc opSbc (.absx w) s

/-- ISC $hhll,Y (0xFB), R305. -/
def execIscAbsy (w : Addr) (s : State) : Result := rmwInstr 0xFB stepInc opSbc (.absy w) s

/-- ISC ($nn,X) (0xE3), R305. -/
def execIscIzx (b : Byte) (s : State) : Result := rmwInstr 0xE3 stepInc opSbc (.izx b) s

/-- ISC ($nn),Y (0xF3), R305. -/
def execIscIzy (b : Byte) (s : State) : Result := rmwInstr 0xF3 stepInc opSbc (.izy b) s

/-- LAS: `v <- M & SP; A, X, SP <- v; setNZ(v)` (R306). -/
def opLas (m : Byte) (s : State) : State :=
  let v := m &&& s.sp
  (((s.setA v).setX v).setSp v).setNZ v

/-- LAS $hhll,Y (0xBB), R306. -/
def execLasAbsy (w : Addr) (s : State) : Result := readInstr 0xBB opLas (.absy w) s

/-- LAX: `A <- M; X <- M; setNZ(M)` (R307). -/
def opLax (m : Byte) (s : State) : State := ((s.setA m).setX m).setNZ m

/-- LAX $nn (0xA7), R307. -/
def execLaxZp (b : Byte) (s : State) : Result := readInstr 0xA7 opLax (.zp b) s

/-- LAX $nn,Y (0xB7), R307. -/
def execLaxZpy (b : Byte) (s : State) : Result := readInstr 0xB7 opLax (.zpy b) s

/-- LAX $hhll (0xAF), R307. -/
def execLaxAbs (w : Addr) (s : State) : Result := readInstr 0xAF opLax (.abs w) s

/-- LAX $hhll,Y (0xBF), R307. -/
def execLaxAbsy (w : Addr) (s : State) : Result := readInstr 0xBF opLax (.absy w) s

/-- LAX ($nn,X) (0xA3), R307. -/
def execLaxIzx (b : Byte) (s : State) : Result := readInstr 0xA3 opLax (.izx b) s

/-- LAX ($nn),Y (0xB3), R307. -/
def execLaxIzy (b : Byte) (s : State) : Result := readInstr 0xB3 opLax (.izy b) s

/-- LXA: `v <- (A | lxaConst) & M; A <- v; X <- v; setNZ(v)` (R308). -/
def opLxa (m : Byte) (s : State) : State :=
  let v := (s.a ||| s.params.lxaConst) &&& m
  ((s.setA v).setX v).setNZ v

/-- LXA #$nn (0xAB), R308. -/
def execLxaImm (v : Byte) (s : State) : Result := readInstr 0xAB opLxa (.imm v) s

/-! RLA: ROL of memory, then AND with the value written (R309). -/

/-- RLA $nn (0x27), R309. -/
def execRlaZp (b : Byte) (s : State) : Result := rmwInstr 0x27 stepRol opAnd (.zp b) s

/-- RLA $nn,X (0x37), R309. -/
def execRlaZpx (b : Byte) (s : State) : Result := rmwInstr 0x37 stepRol opAnd (.zpx b) s

/-- RLA $hhll (0x2F), R309. -/
def execRlaAbs (w : Addr) (s : State) : Result := rmwInstr 0x2F stepRol opAnd (.abs w) s

/-- RLA $hhll,X (0x3F), R309. -/
def execRlaAbsx (w : Addr) (s : State) : Result := rmwInstr 0x3F stepRol opAnd (.absx w) s

/-- RLA $hhll,Y (0x3B), R309. -/
def execRlaAbsy (w : Addr) (s : State) : Result := rmwInstr 0x3B stepRol opAnd (.absy w) s

/-- RLA ($nn,X) (0x23), R309. -/
def execRlaIzx (b : Byte) (s : State) : Result := rmwInstr 0x23 stepRol opAnd (.izx b) s

/-- RLA ($nn),Y (0x33), R309. -/
def execRlaIzy (b : Byte) (s : State) : Result := rmwInstr 0x33 stepRol opAnd (.izy b) s

/-! RRA: ROR of memory, then ADC of the value written, with the carry the ROR produced (R310). -/

/-- RRA $nn (0x67), R310. -/
def execRraZp (b : Byte) (s : State) : Result := rmwInstr 0x67 stepRor addCore (.zp b) s

/-- RRA $nn,X (0x77), R310. -/
def execRraZpx (b : Byte) (s : State) : Result := rmwInstr 0x77 stepRor addCore (.zpx b) s

/-- RRA $hhll (0x6F), R310. -/
def execRraAbs (w : Addr) (s : State) : Result := rmwInstr 0x6F stepRor addCore (.abs w) s

/-- RRA $hhll,X (0x7F), R310. -/
def execRraAbsx (w : Addr) (s : State) : Result := rmwInstr 0x7F stepRor addCore (.absx w) s

/-- RRA $hhll,Y (0x7B), R310. -/
def execRraAbsy (w : Addr) (s : State) : Result := rmwInstr 0x7B stepRor addCore (.absy w) s

/-- RRA ($nn,X) (0x63), R310. -/
def execRraIzx (b : Byte) (s : State) : Result := rmwInstr 0x63 stepRor addCore (.izx b) s

/-- RRA ($nn),Y (0x73), R310. -/
def execRraIzy (b : Byte) (s : State) : Result := rmwInstr 0x73 stepRor addCore (.izy b) s

/-- SAX stores `A & X` (R311). -/
def saxValue (s : State) : Byte := s.a &&& s.x

/-- SAX $nn (0x87), R311. -/
def execSaxZp (b : Byte) (s : State) : Result := storeInstr 0x87 saxValue (.zp b) s

/-- SAX $nn,Y (0x97), R311. -/
def execSaxZpy (b : Byte) (s : State) : Result := storeInstr 0x97 saxValue (.zpy b) s

/-- SAX $hhll (0x8F), R311. -/
def execSaxAbs (w : Addr) (s : State) : Result := storeInstr 0x8F saxValue (.abs w) s

/-- SAX ($nn,X) (0x83), R311. -/
def execSaxIzx (b : Byte) (s : State) : Result := storeInstr 0x83 saxValue (.izx b) s

/-- SBX: `t <- A & X; P.C <- (t >= M); X <- (t - M) mod 256; setNZ(X)` (R312). -/
def opSbx (m : Byte) (s : State) : State :=
  let t := s.a &&& s.x
  ((s.setC (decide (t.toNat ≥ m.toNat))).setX (t - m)).setNZ (t - m)

/-- SBX #$nn (0xCB), R312. -/
def execSbxImm (v : Byte) (s : State) : Result := readInstr 0xCB opSbx (.imm v) s

/-- SHA starts from `A & X` (R313). -/
def shaValue (s : State) : Byte := s.a &&& s.x

/-- SHA $hhll,Y (0x9F), R313. -/
def execShaAbsy (w : Addr) (s : State) : Result := shxInstr 0x9F keepSp shaValue (.absy w) s

/-- SHA ($nn),Y (0x93), R313. -/
def execShaIzy (b : Byte) (s : State) : Result := shxInstr 0x93 keepSp shaValue (.izy b) s

/-! SHX: `SHxStore(X)` (R314). -/

/-- SHX $hhll,Y (0x9E), R314. -/
def execShxAbsy (w : Addr) (s : State) : Result := shxInstr 0x9E keepSp State.x (.absy w) s

/-! SHY: `SHxStore(Y)` (R315). -/

/-- SHY $hhll,X (0x9C), R315. -/
def execShyAbsx (w : Addr) (s : State) : Result := shxInstr 0x9C keepSp State.y (.absx w) s

/-! SLO: ASL of memory, then ORA with the value written (R316). -/

/-- SLO $nn (0x07), R316. -/
def execSloZp (b : Byte) (s : State) : Result := rmwInstr 0x07 stepAsl opOra (.zp b) s

/-- SLO $nn,X (0x17), R316. -/
def execSloZpx (b : Byte) (s : State) : Result := rmwInstr 0x17 stepAsl opOra (.zpx b) s

/-- SLO $hhll (0x0F), R316. -/
def execSloAbs (w : Addr) (s : State) : Result := rmwInstr 0x0F stepAsl opOra (.abs w) s

/-- SLO $hhll,X (0x1F), R316. -/
def execSloAbsx (w : Addr) (s : State) : Result := rmwInstr 0x1F stepAsl opOra (.absx w) s

/-- SLO $hhll,Y (0x1B), R316. -/
def execSloAbsy (w : Addr) (s : State) : Result := rmwInstr 0x1B stepAsl opOra (.absy w) s

/-- SLO ($nn,X) (0x03), R316. -/
def execSloIzx (b : Byte) (s : State) : Result := rmwInstr 0x03 stepAsl opOra (.izx b) s

/-- SLO ($nn),Y (0x13), R316. -/
def execSloIzy (b : Byte) (s : State) : Result := rmwInstr 0x13 stepAsl opOra (.izy b) s

/-! SRE: LSR of memory, then EOR with the value written (R317). -/

/-- SRE $nn (0x47), R317. -/
def execSreZp (b : Byte) (s : State) : Result := rmwInstr 0x47 stepLsr opEor (.zp b) s

/-- SRE $nn,X (0x57), R317. -/
def execSreZpx (b : Byte) (s : State) : Result := rmwInstr 0x57 stepLsr opEor (.zpx b) s

/-- SRE $hhll (0x4F), R317. -/
def execSreAbs (w : Addr) (s : State) : Result := rmwInstr 0x4F stepLsr opEor (.abs w) s

/-- SRE $hhll,X (0x5F), R317. -/
def execSreAbsx (w : Addr) (s : State) : Result := rmwInstr 0x5F stepLsr opEor (.absx w) s

/-- SRE $hhll,Y (0x5B), R317. -/
def execSreAbsy (w : Addr) (s : State) : Result := rmwInstr 0x5B stepLsr opEor (.absy w) s

/-- SRE ($nn,X) (0x43), R317. -/
def execSreIzx (b : Byte) (s : State) : Result := rmwInstr 0x43 stepLsr opEor (.izx b) s

/-- SRE ($nn),Y (0x53), R317. -/
def execSreIzy (b : Byte) (s : State) : Result := rmwInstr 0x53 stepLsr opEor (.izy b) s

/-- TAS: `SP <- A & X`, then `SHxStore(SP)` (R318). -/
def tasSp (s : State) : State := s.setSp (s.a &&& s.x)

/-- TAS $hhll,Y (0x9B), R318. -/
def execTasAbsy (w : Addr) (s : State) : Result := shxInstr 0x9B tasSp State.sp (.absy w) s

/-- ANE: `A <- (A | aneConst) & X & M; setNZ(A)` (R319). -/
def opAne (m : Byte) (s : State) : State :=
  let v := (s.a ||| s.params.aneConst) &&& s.x &&& m
  (s.setA v).setNZ v

/-- ANE #$nn (0x8B), R319. -/
def execAneImm (v : Byte) (s : State) : Result := readInstr 0x8B opAne (.imm v) s

/-- USBC: `AddCore(~M)` (R320). -/
def opUsbc (m : Byte) (s : State) : State := addCore (~~~m) s

/-- USBC #$nn (0xEB), R320. -/
def execUsbcImm (v : Byte) (s : State) : Result := readInstr 0xEB opUsbc (.imm v) s

/-- JAM: `jammed <- true`, nothing else (R321). -/
def opJam (s : State) : State := s.setJammed true

/-- JAM (0x02), R321. -/
def execJam02 (s : State) : Result := impliedInstr 0x02 opJam s

/-- JAM (0x12), R321. -/
def execJam12 (s : State) : Result := impliedInstr 0x12 opJam s

/-- JAM (0x22), R321. -/
def execJam22 (s : State) : Result := impliedInstr 0x22 opJam s

/-- JAM (0x32), R321. -/
def execJam32 (s : State) : Result := impliedInstr 0x32 opJam s

/-- JAM (0x42), R321. -/
def execJam42 (s : State) : Result := impliedInstr 0x42 opJam s

/-- JAM (0x52), R321. -/
def execJam52 (s : State) : Result := impliedInstr 0x52 opJam s

/-- JAM (0x62), R321. -/
def execJam62 (s : State) : Result := impliedInstr 0x62 opJam s

/-- JAM (0x72), R321. -/
def execJam72 (s : State) : Result := impliedInstr 0x72 opJam s

/-- JAM (0x92), R321. -/
def execJam92 (s : State) : Result := impliedInstr 0x92 opJam s

/-- JAM (0xB2), R321. -/
def execJamB2 (s : State) : Result := impliedInstr 0xB2 opJam s

/-- JAM (0xD2), R321. -/
def execJamD2 (s : State) : Result := impliedInstr 0xD2 opJam s

/-- JAM (0xF2), R321. -/
def execJamF2 (s : State) : Result := impliedInstr 0xF2 opJam s

end Sys2Proof.Machine
end

