-- ==== Sys2Proof/Machine/Dispatch.lean ====
section
/-! DEFINITION. One arm per instruction, each a direct call of its meaning (40_dispatch R125). -/

namespace Sys2Proof.Machine

def exec (i : Instr) (s : State) : Host.Outcome State Fault Refusal :=
  match i with
  | .adcImm v => Sys2Proof.Machine.execAdcImm v s
  | .adcZp b => Sys2Proof.Machine.execAdcZp b s
  | .adcZpx b => Sys2Proof.Machine.execAdcZpx b s
  | .adcAbs w => Sys2Proof.Machine.execAdcAbs w s
  | .adcAbsx w => Sys2Proof.Machine.execAdcAbsx w s
  | .adcAbsy w => Sys2Proof.Machine.execAdcAbsy w s
  | .adcIzx b => Sys2Proof.Machine.execAdcIzx b s
  | .adcIzy b => Sys2Proof.Machine.execAdcIzy b s
  | .sbcImm v => Sys2Proof.Machine.execSbcImm v s
  | .sbcZp b => Sys2Proof.Machine.execSbcZp b s
  | .sbcZpx b => Sys2Proof.Machine.execSbcZpx b s
  | .sbcAbs w => Sys2Proof.Machine.execSbcAbs w s
  | .sbcAbsx w => Sys2Proof.Machine.execSbcAbsx w s
  | .sbcAbsy w => Sys2Proof.Machine.execSbcAbsy w s
  | .sbcIzx b => Sys2Proof.Machine.execSbcIzx b s
  | .sbcIzy b => Sys2Proof.Machine.execSbcIzy b s
  | .andImm v => Sys2Proof.Machine.execAndImm v s
  | .andZp b => Sys2Proof.Machine.execAndZp b s
  | .andZpx b => Sys2Proof.Machine.execAndZpx b s
  | .andAbs w => Sys2Proof.Machine.execAndAbs w s
  | .andAbsx w => Sys2Proof.Machine.execAndAbsx w s
  | .andAbsy w => Sys2Proof.Machine.execAndAbsy w s
  | .andIzx b => Sys2Proof.Machine.execAndIzx b s
  | .andIzy b => Sys2Proof.Machine.execAndIzy b s
  | .oraImm v => Sys2Proof.Machine.execOraImm v s
  | .oraZp b => Sys2Proof.Machine.execOraZp b s
  | .oraZpx b => Sys2Proof.Machine.execOraZpx b s
  | .oraAbs w => Sys2Proof.Machine.execOraAbs w s
  | .oraAbsx w => Sys2Proof.Machine.execOraAbsx w s
  | .oraAbsy w => Sys2Proof.Machine.execOraAbsy w s
  | .oraIzx b => Sys2Proof.Machine.execOraIzx b s
  | .oraIzy b => Sys2Proof.Machine.execOraIzy b s
  | .eorImm v => Sys2Proof.Machine.execEorImm v s
  | .eorZp b => Sys2Proof.Machine.execEorZp b s
  | .eorZpx b => Sys2Proof.Machine.execEorZpx b s
  | .eorAbs w => Sys2Proof.Machine.execEorAbs w s
  | .eorAbsx w => Sys2Proof.Machine.execEorAbsx w s
  | .eorAbsy w => Sys2Proof.Machine.execEorAbsy w s
  | .eorIzx b => Sys2Proof.Machine.execEorIzx b s
  | .eorIzy b => Sys2Proof.Machine.execEorIzy b s
  | .bitZp b => Sys2Proof.Machine.execBitZp b s
  | .bitAbs w => Sys2Proof.Machine.execBitAbs w s
  | .aslAcc => Sys2Proof.Machine.execAslAcc s
  | .aslZp b => Sys2Proof.Machine.execAslZp b s
  | .aslZpx b => Sys2Proof.Machine.execAslZpx b s
  | .aslAbs w => Sys2Proof.Machine.execAslAbs w s
  | .aslAbsx w => Sys2Proof.Machine.execAslAbsx w s
  | .lsrAcc => Sys2Proof.Machine.execLsrAcc s
  | .lsrZp b => Sys2Proof.Machine.execLsrZp b s
  | .lsrZpx b => Sys2Proof.Machine.execLsrZpx b s
  | .lsrAbs w => Sys2Proof.Machine.execLsrAbs w s
  | .lsrAbsx w => Sys2Proof.Machine.execLsrAbsx w s
  | .rolAcc => Sys2Proof.Machine.execRolAcc s
  | .rolZp b => Sys2Proof.Machine.execRolZp b s
  | .rolZpx b => Sys2Proof.Machine.execRolZpx b s
  | .rolAbs w => Sys2Proof.Machine.execRolAbs w s
  | .rolAbsx w => Sys2Proof.Machine.execRolAbsx w s
  | .rorAcc => Sys2Proof.Machine.execRorAcc s
  | .rorZp b => Sys2Proof.Machine.execRorZp b s
  | .rorZpx b => Sys2Proof.Machine.execRorZpx b s
  | .rorAbs w => Sys2Proof.Machine.execRorAbs w s
  | .rorAbsx w => Sys2Proof.Machine.execRorAbsx w s
  | .cmpImm v => Sys2Proof.Machine.execCmpImm v s
  | .cmpZp b => Sys2Proof.Machine.execCmpZp b s
  | .cmpZpx b => Sys2Proof.Machine.execCmpZpx b s
  | .cmpAbs w => Sys2Proof.Machine.execCmpAbs w s
  | .cmpAbsx w => Sys2Proof.Machine.execCmpAbsx w s
  | .cmpAbsy w => Sys2Proof.Machine.execCmpAbsy w s
  | .cmpIzx b => Sys2Proof.Machine.execCmpIzx b s
  | .cmpIzy b => Sys2Proof.Machine.execCmpIzy b s
  | .cpxImm v => Sys2Proof.Machine.execCpxImm v s
  | .cpxZp b => Sys2Proof.Machine.execCpxZp b s
  | .cpxAbs w => Sys2Proof.Machine.execCpxAbs w s
  | .cpyImm v => Sys2Proof.Machine.execCpyImm v s
  | .cpyZp b => Sys2Proof.Machine.execCpyZp b s
  | .cpyAbs w => Sys2Proof.Machine.execCpyAbs w s
  | .incZp b => Sys2Proof.Machine.execIncZp b s
  | .incZpx b => Sys2Proof.Machine.execIncZpx b s
  | .incAbs w => Sys2Proof.Machine.execIncAbs w s
  | .incAbsx w => Sys2Proof.Machine.execIncAbsx w s
  | .decZp b => Sys2Proof.Machine.execDecZp b s
  | .decZpx b => Sys2Proof.Machine.execDecZpx b s
  | .decAbs w => Sys2Proof.Machine.execDecAbs w s
  | .decAbsx w => Sys2Proof.Machine.execDecAbsx w s
  | .inx => Sys2Proof.Machine.execInx s
  | .iny => Sys2Proof.Machine.execIny s
  | .dex => Sys2Proof.Machine.execDex s
  | .dey => Sys2Proof.Machine.execDey s
  | .bcc o => Sys2Proof.Machine.execBcc o s
  | .bcs o => Sys2Proof.Machine.execBcs o s
  | .beq o => Sys2Proof.Machine.execBeq o s
  | .bne o => Sys2Proof.Machine.execBne o s
  | .bmi o => Sys2Proof.Machine.execBmi o s
  | .bpl o => Sys2Proof.Machine.execBpl o s
  | .bvc o => Sys2Proof.Machine.execBvc o s
  | .bvs o => Sys2Proof.Machine.execBvs o s
  | .pha => Sys2Proof.Machine.execPha s
  | .php => Sys2Proof.Machine.execPhp s
  | .pla => Sys2Proof.Machine.execPla s
  | .plp => Sys2Proof.Machine.execPlp s
  | .jsrAbs w => Sys2Proof.Machine.execJsrAbs w s
  | .rts => Sys2Proof.Machine.execRts s
  | .rti => Sys2Proof.Machine.execRti s
  | .brk => Sys2Proof.Machine.execBrk s
  | .jmpAbs w => Sys2Proof.Machine.execJmpAbs w s
  | .jmpInd w => Sys2Proof.Machine.execJmpInd w s
  | .tax => Sys2Proof.Machine.execTax s
  | .tay => Sys2Proof.Machine.execTay s
  | .txa => Sys2Proof.Machine.execTxa s
  | .tya => Sys2Proof.Machine.execTya s
  | .tsx => Sys2Proof.Machine.execTsx s
  | .txs => Sys2Proof.Machine.execTxs s
  | .ldaImm v => Sys2Proof.Machine.execLdaImm v s
  | .ldaZp b => Sys2Proof.Machine.execLdaZp b s
  | .ldaZpx b => Sys2Proof.Machine.execLdaZpx b s
  | .ldaAbs w => Sys2Proof.Machine.execLdaAbs w s
  | .ldaAbsx w => Sys2Proof.Machine.execLdaAbsx w s
  | .ldaAbsy w => Sys2Proof.Machine.execLdaAbsy w s
  | .ldaIzx b => Sys2Proof.Machine.execLdaIzx b s
  | .ldaIzy b => Sys2Proof.Machine.execLdaIzy b s
  | .ldxImm v => Sys2Proof.Machine.execLdxImm v s
  | .ldxZp b => Sys2Proof.Machine.execLdxZp b s
  | .ldxZpy b => Sys2Proof.Machine.execLdxZpy b s
  | .ldxAbs w => Sys2Proof.Machine.execLdxAbs w s
  | .ldxAbsy w => Sys2Proof.Machine.execLdxAbsy w s
  | .ldyImm v => Sys2Proof.Machine.execLdyImm v s
  | .ldyZp b => Sys2Proof.Machine.execLdyZp b s
  | .ldyZpx b => Sys2Proof.Machine.execLdyZpx b s
  | .ldyAbs w => Sys2Proof.Machine.execLdyAbs w s
  | .ldyAbsx w => Sys2Proof.Machine.execLdyAbsx w s
  | .staZp b => Sys2Proof.Machine.execStaZp b s
  | .staZpx b => Sys2Proof.Machine.execStaZpx b s
  | .staAbs w => Sys2Proof.Machine.execStaAbs w s
  | .staAbsx w => Sys2Proof.Machine.execStaAbsx w s
  | .staAbsy w => Sys2Proof.Machine.execStaAbsy w s
  | .staIzx b => Sys2Proof.Machine.execStaIzx b s
  | .staIzy b => Sys2Proof.Machine.execStaIzy b s
  | .stxZp b => Sys2Proof.Machine.execStxZp b s
  | .stxZpy b => Sys2Proof.Machine.execStxZpy b s
  | .stxAbs w => Sys2Proof.Machine.execStxAbs w s
  | .styZp b => Sys2Proof.Machine.execStyZp b s
  | .styZpx b => Sys2Proof.Machine.execStyZpx b s
  | .styAbs w => Sys2Proof.Machine.execStyAbs w s
  | .clc => Sys2Proof.Machine.execClc s
  | .sec => Sys2Proof.Machine.execSec s
  | .cli => Sys2Proof.Machine.execCli s
  | .sei => Sys2Proof.Machine.execSei s
  | .cld => Sys2Proof.Machine.execCld s
  | .sed => Sys2Proof.Machine.execSed s
  | .clv => Sys2Proof.Machine.execClv s
  | .nopImp1A => Sys2Proof.Machine.execNopImp1A s
  | .nopImp3A => Sys2Proof.Machine.execNopImp3A s
  | .nopImp5A => Sys2Proof.Machine.execNopImp5A s
  | .nopImp7A => Sys2Proof.Machine.execNopImp7A s
  | .nopImpDA => Sys2Proof.Machine.execNopImpDA s
  | .nopImpEA => Sys2Proof.Machine.execNopImpEA s
  | .nopImpFA => Sys2Proof.Machine.execNopImpFA s
  | .nopImm80 v => Sys2Proof.Machine.execNopImm80 v s
  | .nopImm82 v => Sys2Proof.Machine.execNopImm82 v s
  | .nopImm89 v => Sys2Proof.Machine.execNopImm89 v s
  | .nopImmC2 v => Sys2Proof.Machine.execNopImmC2 v s
  | .nopImmE2 v => Sys2Proof.Machine.execNopImmE2 v s
  | .nopZp04 b => Sys2Proof.Machine.execNopZp04 b s
  | .nopZp44 b => Sys2Proof.Machine.execNopZp44 b s
  | .nopZp64 b => Sys2Proof.Machine.execNopZp64 b s
  | .nopZpx14 b => Sys2Proof.Machine.execNopZpx14 b s
  | .nopZpx34 b => Sys2Proof.Machine.execNopZpx34 b s
  | .nopZpx54 b => Sys2Proof.Machine.execNopZpx54 b s
  | .nopZpx74 b => Sys2Proof.Machine.execNopZpx74 b s
  | .nopZpxD4 b => Sys2Proof.Machine.execNopZpxD4 b s
  | .nopZpxF4 b => Sys2Proof.Machine.execNopZpxF4 b s
  | .nopAbs0C w => Sys2Proof.Machine.execNopAbs0C w s
  | .nopAbsx1C w => Sys2Proof.Machine.execNopAbsx1C w s
  | .nopAbsx3C w => Sys2Proof.Machine.execNopAbsx3C w s
  | .nopAbsx5C w => Sys2Proof.Machine.execNopAbsx5C w s
  | .nopAbsx7C w => Sys2Proof.Machine.execNopAbsx7C w s
  | .nopAbsxDC w => Sys2Proof.Machine.execNopAbsxDC w s
  | .nopAbsxFC w => Sys2Proof.Machine.execNopAbsxFC w s
  | .alrImm v => Sys2Proof.Machine.execAlrImm v s
  | .ancImm0B v => Sys2Proof.Machine.execAncImm0B v s
  | .ancImm2B v => Sys2Proof.Machine.execAncImm2B v s
  | .arrImm v => Sys2Proof.Machine.execArrImm v s
  | .dcpZp b => Sys2Proof.Machine.execDcpZp b s
  | .dcpZpx b => Sys2Proof.Machine.execDcpZpx b s
  | .dcpAbs w => Sys2Proof.Machine.execDcpAbs w s
  | .dcpAbsx w => Sys2Proof.Machine.execDcpAbsx w s
  | .dcpAbsy w => Sys2Proof.Machine.execDcpAbsy w s
  | .dcpIzx b => Sys2Proof.Machine.execDcpIzx b s
  | .dcpIzy b => Sys2Proof.Machine.execDcpIzy b s
  | .iscZp b => Sys2Proof.Machine.execIscZp b s
  | .iscZpx b => Sys2Proof.Machine.execIscZpx b s
  | .iscAbs w => Sys2Proof.Machine.execIscAbs w s
  | .iscAbsx w => Sys2Proof.Machine.execIscAbsx w s
  | .iscAbsy w => Sys2Proof.Machine.execIscAbsy w s
  | .iscIzx b => Sys2Proof.Machine.execIscIzx b s
  | .iscIzy b => Sys2Proof.Machine.execIscIzy b s
  | .lasAbsy w => Sys2Proof.Machine.execLasAbsy w s
  | .laxZp b => Sys2Proof.Machine.execLaxZp b s
  | .laxZpy b => Sys2Proof.Machine.execLaxZpy b s
  | .laxAbs w => Sys2Proof.Machine.execLaxAbs w s
  | .laxAbsy w => Sys2Proof.Machine.execLaxAbsy w s
  | .laxIzx b => Sys2Proof.Machine.execLaxIzx b s
  | .laxIzy b => Sys2Proof.Machine.execLaxIzy b s
  | .lxaImm v => Sys2Proof.Machine.execLxaImm v s
  | .rlaZp b => Sys2Proof.Machine.execRlaZp b s
  | .rlaZpx b => Sys2Proof.Machine.execRlaZpx b s
  | .rlaAbs w => Sys2Proof.Machine.execRlaAbs w s
  | .rlaAbsx w => Sys2Proof.Machine.execRlaAbsx w s
  | .rlaAbsy w => Sys2Proof.Machine.execRlaAbsy w s
  | .rlaIzx b => Sys2Proof.Machine.execRlaIzx b s
  | .rlaIzy b => Sys2Proof.Machine.execRlaIzy b s
  | .rraZp b => Sys2Proof.Machine.execRraZp b s
  | .rraZpx b => Sys2Proof.Machine.execRraZpx b s
  | .rraAbs w => Sys2Proof.Machine.execRraAbs w s
  | .rraAbsx w => Sys2Proof.Machine.execRraAbsx w s
  | .rraAbsy w => Sys2Proof.Machine.execRraAbsy w s
  | .rraIzx b => Sys2Proof.Machine.execRraIzx b s
  | .rraIzy b => Sys2Proof.Machine.execRraIzy b s
  | .saxZp b => Sys2Proof.Machine.execSaxZp b s
  | .saxZpy b => Sys2Proof.Machine.execSaxZpy b s
  | .saxAbs w => Sys2Proof.Machine.execSaxAbs w s
  | .saxIzx b => Sys2Proof.Machine.execSaxIzx b s
  | .sbxImm v => Sys2Proof.Machine.execSbxImm v s
  | .shaAbsy w => Sys2Proof.Machine.execShaAbsy w s
  | .shaIzy b => Sys2Proof.Machine.execShaIzy b s
  | .shxAbsy w => Sys2Proof.Machine.execShxAbsy w s
  | .shyAbsx w => Sys2Proof.Machine.execShyAbsx w s
  | .sloZp b => Sys2Proof.Machine.execSloZp b s
  | .sloZpx b => Sys2Proof.Machine.execSloZpx b s
  | .sloAbs w => Sys2Proof.Machine.execSloAbs w s
  | .sloAbsx w => Sys2Proof.Machine.execSloAbsx w s
  | .sloAbsy w => Sys2Proof.Machine.execSloAbsy w s
  | .sloIzx b => Sys2Proof.Machine.execSloIzx b s
  | .sloIzy b => Sys2Proof.Machine.execSloIzy b s
  | .sreZp b => Sys2Proof.Machine.execSreZp b s
  | .sreZpx b => Sys2Proof.Machine.execSreZpx b s
  | .sreAbs w => Sys2Proof.Machine.execSreAbs w s
  | .sreAbsx w => Sys2Proof.Machine.execSreAbsx w s
  | .sreAbsy w => Sys2Proof.Machine.execSreAbsy w s
  | .sreIzx b => Sys2Proof.Machine.execSreIzx b s
  | .sreIzy b => Sys2Proof.Machine.execSreIzy b s
  | .tasAbsy w => Sys2Proof.Machine.execTasAbsy w s
  | .aneImm v => Sys2Proof.Machine.execAneImm v s
  | .usbcImm v => Sys2Proof.Machine.execUsbcImm v s
  | .jam02 => Sys2Proof.Machine.execJam02 s
  | .jam12 => Sys2Proof.Machine.execJam12 s
  | .jam22 => Sys2Proof.Machine.execJam22 s
  | .jam32 => Sys2Proof.Machine.execJam32 s
  | .jam42 => Sys2Proof.Machine.execJam42 s
  | .jam52 => Sys2Proof.Machine.execJam52 s
  | .jam62 => Sys2Proof.Machine.execJam62 s
  | .jam72 => Sys2Proof.Machine.execJam72 s
  | .jam92 => Sys2Proof.Machine.execJam92 s
  | .jamB2 => Sys2Proof.Machine.execJamB2 s
  | .jamD2 => Sys2Proof.Machine.execJamD2 s
  | .jamF2 => Sys2Proof.Machine.execJamF2 s

end Sys2Proof.Machine
end

