-- ==== Sys2Proof/Machine/Init.lean ====
section
/-! DEFINITION. How a machine comes into being: the cartridge load, power-on and `reset()` (70_reset_and_hazards R370 to R378),
and placing an instruction where the next fetch reads (used by `State.withFetchWord`). -/

namespace Sys2Proof.Machine

/-- The parameter `powerOn` (R375): the registers and the RAM bytes before the first reset.  It is OPEN. -/
structure PowerOn where
  a : Byte
  x : Byte
  y : Byte
  sp : Byte
  pc : Addr
  p : Byte
  ram : List Byte
  deriving DecidableEq, Repr

/-- Why `init` fails (R374, R350). -/
inductive LoadFailure where
  /-- Fewer than 16 bytes. -/
  | truncatedHeader
  /-- The magic is not 4E 45 53 1A (D24). -/
  | badMagic
  /-- `prgUnits = 0` (D24). -/
  | emptyProgram
  /-- `mapperId ≠ 0`. -/
  | unsupportedMapper (id : Byte)
  /-- Fewer bytes than the header claims. -/
  | truncatedBody
  deriving DecidableEq, Repr

/-- The header fields the core needs (R371). -/
structure Header where
  prgUnits : Byte
  chrUnits : Byte
  ctrl1 : Byte
  ctrl2 : Byte
  deriving DecidableEq, Repr

/-- Byte `k` of a file that has it. -/
def fileByte (file : List Byte) (k : Nat) : Byte := (file[k]?).getD 0

/-- The header fields at their offsets (R371). -/
def headerOf (file : List Byte) : Header :=
  ⟨fileByte file 4, fileByte file 5, fileByte file 6, fileByte file 7⟩

/-- "NES" then 0x1A (R371, R374). -/
def magic : List Byte := [0x4E, 0x45, 0x53, 0x1A]

/-- `mapperId = (ctrl2 & 0xF0) | (ctrl1 >> 4)` (R372). -/
def Header.mapperId (h : Header) : Byte := (h.ctrl2 &&& 0xF0) ||| (h.ctrl1 >>> 4)

/-- The length of the trainer block: 512 bytes iff `ctrl1[2]` is set (R373). -/
def Header.trainerLength (h : Header) : Nat := if bit h.ctrl1 2 then 512 else 0

/-- `16384 · prgUnits` (R371). -/
def Header.prgLength (h : Header) : Nat := 16384 * h.prgUnits.toNat

/-- `8192 · chrUnits` (R371). -/
def Header.chrLength (h : Header) : Nat := 8192 * h.chrUnits.toNat

/-- Where the program ROM starts in the file (R373). -/
def Header.prgOffset (h : Header) : Nat := 16 + h.trainerLength

/-- The required length `L` (R373). -/
def Header.requiredLength (h : Header) : Nat := h.prgOffset + h.prgLength + h.chrLength

/-- The Mapper Table: exactly one implementation, id 0 (R78). -/
def mapperTable : List Byte := [0]

/-- The first failure of an image, if there is one (R374; the order is log 17's). -/
def loadFailure (file : List Byte) : Option LoadFailure :=
  let h := headerOf file
  if file.length < 16 then some .truncatedHeader
  else if file.take 4 ≠ magic then some .badMagic
  else if h.prgUnits = 0 then some .emptyProgram
  else if ¬ mapperTable.contains h.mapperId then some (.unsupportedMapper h.mapperId)
  else if file.length < h.requiredLength then some .truncatedBody
  else none

/-- `n` bytes of a file from an offset on. -/
def slice (file : List Byte) (start n : Nat) : List Byte := (file.drop start).take n

/-- The cartridge of an image that passes the checks (R370, R373).  Bytes after the required length are ignored (R374). -/
def cartridgeOf (file : List Byte) : Cartridge :=
  let h := headerOf file
  { prgUnits := h.prgUnits.toNat
    prgRom := Memory.ofBytesFrom 0 (slice file h.prgOffset h.prgLength)
    chrUnits := h.chrUnits.toNat
    chrRom := Memory.ofBytesFrom 0 (slice file (h.prgOffset + h.prgLength) h.chrLength)
    mirroring := if bit h.ctrl1 0 then .vertical else .horizontal
    fourScreen := bit h.ctrl1 3
    mapperId := h.mapperId }

/-- The state `init` creates, before any reset (R375): not jammed, no event yet. -/
def powerOnState (params : Params) (po : PowerOn) (cart : Cartridge) : State where
  a := po.a
  x := po.x
  y := po.y
  sp := po.sp
  pc := po.pc
  p := Status.unpack po.p
  jammed := false
  extra := 0
  ram := Memory.ofBytesFrom 0 (po.ram.take 2048)
  cart := cart
  events := []
  extReads := 0
  tickCycles := 0
  params := params

/-- `init(cartridgeBytes)`: the machine, or the failure; no bus access, no reset (R370). -/
def init (params : Params) (po : PowerOn) (file : List Byte) : Except LoadFailure State :=
  match loadFailure file with
  | some e => .error e
  | none => .ok (powerOnState params po (cartridgeOf file))

/-- `reset()` (R376): SP, P, then PC from the reset vector.  A, X, Y, RAM, cartridge and `jammed` stay (R377, R378). -/
def applyReset (s : State) : State :=
  let v := read16 resetVector ((s.setSp 0xFD).setP Status.reset)
  v.2.setPc v.1

/-- Whether an instruction byte can be placed at an address: RAM or program ROM. -/
def holdsCode (a : Addr) : Bool :=
  match region a with
  | .ram _ => true
  | .ppu _ => false
  | .apu _ => false
  | .oamDma => false
  | .ctrl0 => false
  | .ctrl1 => false
  | .openBus => false
  | .cartridge _ => true

/-- Place a byte in RAM or in the program ROM image, as a load from outside does. -/
def placeByte (a : Addr) (v : Byte) (s : State) : State :=
  match region a with
  | .ram i => s.setRam (s.ram.write i.toNat v)
  | .ppu _ => s
  | .apu _ => s
  | .oamDma => s
  | .ctrl0 => s
  | .ctrl1 => s
  | .openBus => s
  | .cartridge p =>
    { s with cart := { s.cart with
      prgRom := s.cart.prgRom.write (p.toNat % (16384 * s.cart.prgUnits)) v } }

/-- Where code for the next fetch can stand: PC itself, or 0 if PC's three bytes are not all in RAM or ROM (log 23). -/
def codeAddress (pc : Addr) : Addr :=
  if holdsCode pc && holdsCode (pc + 1) && holdsCode (pc + 2) then pc else 0

/-- Place three bytes where the next fetch reads, on a core that is not jammed (log 23). -/
def placeCode (b0 b1 b2 : Byte) (s : State) : State :=
  let at0 := codeAddress s.pc
  placeByte (at0 + 2) b2 (placeByte (at0 + 1) b1 (placeByte at0 b0 ((s.setPc at0).setJammed false)))

end Sys2Proof.Machine
end

