-- ==== Sys2Proof/Machine/Step.lean ====
section
/-! DEFINITION. One step of the core is one `tick()` (40_dispatch R120 to R126, R134). -/

namespace Sys2Proof.Machine

/-- `tick()` (R134).  A jammed core has no step (R121); else `extra` is reset, the instruction is fetched with PC left after it,
and its meaning runs. -/
def step (s : State) : Host.Outcome State Fault Refusal :=
  if s.jammed then .fault .jammedCore
  else exec (fetchInstr (beginTick s)).1 (fetchInstr (beginTick s)).2

/-- `s` with the instruction of a table word stored where `step` fetches next (log 23). -/
def State.withFetchWord (s : State) (nbits w : Nat) : State :=
  placeCode (byteOfWord (w % 2 ^ nbits) 0) (byteOfWord (w % 2 ^ nbits) 1)
    (byteOfWord (w % 2 ^ nbits) 2) s

end Sys2Proof.Machine
end

