-- ==== Sys2Proof/Machine/Driver.lean ====
section
/-! DEFINITION. The driver around the core: the cumulative cycle count and the stepping ratio (60_exceptions R352, R353), the
trace (R354), and the reference-trace harness (70_reset_and_hazards R380).  None of it is state of the core (R46). -/

namespace Sys2Proof.Machine

/-- The observable record of one step (R354). -/
structure TraceRecord where
  pc : Addr
  opcode : Byte
  a : Byte
  x : Byte
  y : Byte
  p : Byte
  sp : Byte
  cyc : Nat
  deriving DecidableEq, Repr

/-- The record of the step about to run: sampled before the tick, the opcode being the byte that tick fetches (R354). -/
def traceRecord (s : State) (cyc : Nat) : TraceRecord :=
  ⟨s.pc, (fetchByte (beginTick s)).1, s.a, s.x, s.y, s.p.pack, s.sp, cyc⟩

/-- The driver's own data beside the machine. -/
structure Driver where
  machine : State
  cyc : Nat
  ppuTicks : Nat
  apuTicks : Nat
  trace : List TraceRecord
  deriving DecidableEq, Repr

/-- A driver that starts counting at `cyc` (R352, R379). -/
def Driver.start (s : State) (cyc : Nat) : Driver := ⟨s, cyc, 0, 0, []⟩

/-- The driver's reset: the machine's, with `resetCycles` counted (R379). -/
def Driver.reset (d : Driver) : Driver :=
  { d with machine := applyReset d.machine, cyc := d.cyc + d.machine.params.resetCycles }

/-- One tick of the driver: record, tick, count the cycles, and step the collaborators 3 and 1 times a cycle (R352 to R354). -/
def Driver.tick (d : Driver) : Host.Outcome Driver Fault Refusal :=
  match step d.machine with
  | .next t =>
    .next
      { machine := t
        cyc := d.cyc + t.tickCycles
        ppuTicks := d.ppuTicks + 3 * t.tickCycles
        apuTicks := d.apuTicks + t.tickCycles
        trace := d.trace ++ [traceRecord d.machine d.cyc] }
  | .fault e => .fault e
  | .refused e => .refused e

/-- Tick while `cyc ≤ limit` and the core is not jammed, at most `fuel` times (R380, R384). -/
def Driver.run (limit : Nat) : Nat → Driver → Host.Outcome Driver Fault Refusal
  | 0, d => .next d
  | fuel + 1, d =>
    if d.cyc ≤ limit ∧ d.machine.jammed = false then
      match d.tick with
      | .next d' => Driver.run limit fuel d'
      | .fault e => .fault e
      | .refused e => .refused e
    else .next d

/-- The reference harness: init, reset, PC at C000, counting from 7, up to cycle 26554 (R380). -/
def referenceHarness (params : Params) (po : PowerOn) (image : List Byte) (fuel : Nat) :
    Except LoadFailure (Host.Outcome Driver Fault Refusal) :=
  match init params po image with
  | .error e => .error e
  | .ok s => .ok (Driver.run 26554 fuel (Driver.start ((applyReset s).setPc 0xC000) 7))

end Sys2Proof.Machine
end

