-- ==== Sys2Proof/Safety.lean ====
section
/-! DEFINITION. What a state of a loaded and reset machine satisfies, and what a run of it may do: the terms the claims use. -/

namespace Sys2Proof.Machine

/-- A loaded cartridge (10_state R48, 20_memory R76, R78): at least one program unit, images within their sizes and in the
canonical form, mapper 0. -/
abbrev Cartridge.WellFormed (c : Cartridge) : Prop :=
  1 ≤ c.prgUnits ∧
    c.prgRom.wf = true ∧ c.prgRom.below (16384 * c.prgUnits) = true ∧
    c.chrRom.wf = true ∧ c.chrRom.below (8192 * c.chrUnits) = true ∧
    c.mapperId = 0

/-- RAM in the canonical form, within its 2048 bytes (10_state R47), and a loaded cartridge. -/
abbrev State.Loaded (s : State) : Prop :=
  s.ram.wf = true ∧ s.ram.below 2048 = true ∧ s.cart.WellFormed

/-- The invariant of a machine that was reset: loaded, and `P.U = 1` (10_state R41). -/
abbrev State.Inv (s : State) : Prop := s.Loaded ∧ s.p.u = true

/-- `t` is reached from `s` by ticks that each give a next state. -/
inductive Reaches : State → State → Prop where
  | refl (s : State) : Reaches s s
  | tick {s t u : State} (h : Reaches s t) (hs : step t = .next u) : Reaches s u

end Sys2Proof.Machine
end

