-- ==== Sys2Proof/Certificates/Slice0/Obligations.lean ====
section
/-! DEFINITION. The statements for the provers, and the words they are written in. -/

open Sys2Proof Sys2Proof.Machine

namespace Sys2Proof.Claims

/-- An entry of 30_encoding R110: opcode byte, mode, base cycles, and whether the page-cross penalty applies. -/
abbrev TableEntry := Byte × Mode × Nat × Bool

/-- The state a tick leaves when its handler left `t`: the cycle count is base + penalty + extra (40_dispatch R126). -/
def counted (e : TableEntry) (crossed : Bool) (t : State) : State :=
  { t with tickCycles := e.2.2.1 + (if crossed && e.2.2.2 then 1 else 0) + t.extra }

/-- Every instruction with one of these opcode bytes has the entry's mode and, from EVERY state, runs to a next state: the
one `result` gives (the state its handler leaves, and whether its resolver reported a page cross), counted. -/
def Completes (entries : List TableEntry) (result : Instr → State → State × Bool) : Prop :=
  ∀ e ∈ entries, ∀ (i : Instr) (s : State), i.opcode = e.1 →
    i.operand.mode = e.2.1 ∧ exec i s = .next (counted e (result i s).2 (result i s).1)

/-- `Completes` for a read instruction: the resolver, the operand value M, then `post M`. -/
def ReadCompletes (entries : List TableEntry) (post : Byte → State → State) : Prop :=
  Completes entries fun i s =>
    let r := resolve i.operand s
    let m := operandByte i.operand r.1 r.2
    (post m.1 m.2, r.1.crossed)

/-- `Completes` for an instruction without a memory operand. -/
def ImpliedCompletes (entries : List TableEntry) (post : State → State) : Prop :=
  Completes entries fun _ s => (post s, false)

/-- `Completes` for a read-modify-write of memory: one read of the effective address, one write of the result to it, then the
second micro-operation on the value written. -/
def RmwCompletes (entries : List TableEntry) (f : Byte → State → Byte × Status)
    (second : Byte → State → State) : Prop :=
  Completes entries fun i s =>
    let r := resolve i.operand s
    let m := memRead r.1.ea r.2
    let v := f m.1 m.2
    (second v.1 (memWrite r.1.ea v.1 { m.2 with p := v.2 }), r.1.crossed)

/-- `Completes` for a read-modify-write of A under Accumulator mode. -/
def AccumulatorCompletes (entries : List TableEntry) (f : Byte → State → Byte × Status) : Prop :=
  Completes entries fun _ s => ({ s with a := (f s.a s).1, p := (f s.a s).2 }, false)

/-- `Completes` for a store: one write of the value to the effective address, no read of it. -/
def StoreCompletes (entries : List TableEntry) (value : State → Byte) : Prop :=
  Completes entries fun i s =>
    let r := resolve i.operand s
    (memWrite r.1.ea (value r.2) r.2, r.1.crossed)

/-- No second micro-operation. -/
def nothingMore (_ : Byte) (s : State) : State := s

/-- `P.Z <- (r = 0); P.N <- r[7]` (00_scope R12). -/
def withNZ (r : Byte) (p : Status) : Status :=
  { p with z := decide (r = 0), n := r.getLsbD 7 }

/-- A byte from a number, reduced mod 256 (00_scope R9). -/
def mod256 (n : Nat) : Byte := BitVec.ofNat 8 n

/-- `(n - m) mod 256` for bytes, written without subtraction below zero. -/
def minus256 (n m : Byte) : Byte := mod256 (n.toNat + 256 - m.toNat)

/-- The add core (42_arith_logic R170), in exact integers. -/
def added (m : Byte) (s : State) : State :=
  let sum := s.a.toNat + m.toNat + (if s.p.c then 1 else 0)
  let c7 := decide (sum > 255)
  let c6 := decide (s.a.toNat % 128 + m.toNat % 128 + (if s.p.c then 1 else 0) > 127)
  { s with
    a := mod256 (sum % 256)
    p := { withNZ (mod256 (sum % 256)) s.p with c := c7, v := c7 != c6 } }

/-- `~v = 255 - v` (00_scope R9). -/
def complement (v : Byte) : Byte := mod256 (255 - v.toNat)

/-- The compare core (44_compare_incdec R200): only N, Z and C change. -/
def compared (r m : Byte) (s : State) : State :=
  { s with p := { withNZ (minus256 r m) s.p with c := decide (m.toNat ≤ r.toNat) } }

/-- ASL of a value: the result and the status (43_shift_rotate R191). -/
def shiftedLeft (v : Byte) (s : State) : Byte × Status :=
  let r := mod256 (2 * v.toNat % 256)
  (r, { withNZ r s.p with c := v.getLsbD 7 })

/-- LSR of a value (R192). -/
def shiftedRight (v : Byte) (s : State) : Byte × Status :=
  let r := mod256 (v.toNat / 2)
  (r, { withNZ r s.p with c := v.getLsbD 0 })

/-- ROL of a value: the old carry enters bit 0 (R193). -/
def rotatedLeft (v : Byte) (s : State) : Byte × Status :=
  let r := mod256 ((2 * v.toNat + (if s.p.c then 1 else 0)) % 256)
  (r, { withNZ r s.p with c := v.getLsbD 7 })

/-- ROR of a value: the old carry enters bit 7 (R194). -/
def rotatedRight (v : Byte) (s : State) : Byte × Status :=
  let r := mod256 (v.toNat / 2 + (if s.p.c then 128 else 0))
  (r, { withNZ r s.p with c := v.getLsbD 0 })

/-- INC of a value (44_compare_incdec R204). -/
def incremented (v : Byte) (s : State) : Byte × Status :=
  let r := mod256 ((v.toNat + 1) % 256)
  (r, withNZ r s.p)

/-- DEC of a value (R205). -/
def decremented (v : Byte) (s : State) : Byte × Status :=
  let r := minus256 v 1
  (r, withNZ r s.p)

/-- Load A with N and Z from it. -/
def loadedA (v : Byte) (s : State) : State := { s with a := v, p := withNZ v s.p }

/-- Load X with N and Z from it. -/
def loadedX (v : Byte) (s : State) : State := { s with x := v, p := withNZ v s.p }

/-- Load Y with N and Z from it. -/
def loadedY (v : Byte) (s : State) : State := { s with y := v, p := withNZ v s.p }

/-- The status after PLP or RTI pulled `v` (46_stack_control R241). -/
def restored (params : Params) (old : Status) (v : Byte) : Status where
  c := v.getLsbD 0
  z := v.getLsbD 1
  i := v.getLsbD 2
  d := v.getLsbD 3
  b := if params.plpBreak = .fromStack then v.getLsbD 4
    else if params.plpBreak = .keep then old.b else false
  u := true
  v := v.getLsbD 6
  n := v.getLsbD 7

/-- `Branch(cond)` (45_branches R220): what it leaves, with PC at the next instruction and the target resolved. -/
def branched (cond : State → Bool) (i : Instr) (s : State) : State × Bool :=
  let ea := (resolve i.operand s).1.ea
  (if cond s then
    { s with
      pc := ea
      extra := s.extra + 1 + (if ea.toNat / 256 = s.pc.toNat / 256 then 0 else 1) }
  else s, false)

/-- Whether an instruction is a branch whose condition these flags meet (R221 to R228). -/
def branchTaken (i : Instr) (p : Status) : Bool :=
  match i.mnemonic with
  | .bcc => !p.c
  | .bcs => p.c
  | .beq => p.z
  | .bne => !p.z
  | .bmi => p.n
  | .bpl => !p.n
  | .bvc => !p.v
  | .bvs => p.v
  | _ => false

/-- `SHxStore(v0)` (49_undocumented R322). -/
def shStored (v0 : Byte) (r : Resolved) (s : State) : State :=
  let v := v0 &&& mod256 ((r.base.toNat / 256 + 1) % 256)
  memWrite (if r.crossed = true ∧ s.params.shxAddrGlitch = true
    then BitVec.ofNat 16 (v.toNat * 256 + r.ea.toNat % 256) else r.ea) v s

/-- The event of an external read (20_memory R92). -/
def eventOf : ExtPort → Byte → BusEvent
  | .ppu r, b => .ppuRead r b
  | .apu a, b => .apuRead a b
  | .ctrl n, b => .ctrlRead n b

/-- One external read: a free answer, and that same answer recorded at the end of the history (R91, R92; log 5). -/
def answered (port : ExtPort) (s : State) : Byte × State :=
  let b := Config.extAnswer s.extReads s.events port
  (b, { s with events := s.events ++ [eventOf port b], extReads := s.extReads + 1 })

/-- The port behind a device register that can be read (R66, R68, R71, R73, R90); none for every other address. -/
def devicePort (a : Addr) : Option ExtPort :=
  if 0x2000 ≤ a.toNat ∧ a.toNat ≤ 0x3FFF then some (.ppu (BitVec.ofNat 3 (a.toNat % 8)))
  else if (0x4000 ≤ a.toNat ∧ a.toNat ≤ 0x4013) ∨ a.toNat = 0x4015 then some (.apu a)
  else if a.toNat = 0x4016 then some (.ctrl 0)
  else if a.toNat = 0x4017 then some (.ctrl 1)
  else none

/-- The history with one more event. -/
def logged (e : BusEvent) (s : State) : State := { s with events := s.events ++ [e] }

/-- `n` bytes read through the bus at PC, PC moving past each (40_dispatch R122, R130). -/
def bytesAtPc : Nat → State → List Byte × State
  | 0, s => ([], s)
  | n + 1, s =>
    let b := memRead s.pc s
    let rest := bytesAtPc n { b.2 with pc := s.pc + 1 }
    (b.1 :: rest.1, rest.2)

/-- The instruction the next tick fetches. -/
def fetched (s : State) : Instr := (fetchInstr { s with extra := 0 }).1

/-- The address a storing form writes: the effective address, or for SHA, SHX, SHY, TAS the one `SHxStore` uses. -/
def storeAddress (i : Instr) (s : State) : Addr :=
  let r := (resolve i.operand s).1
  let glitched (v0 : Byte) := shxAddress s.params.shxAddrGlitch r (v0 &&& highPlusOne r)
  match i.mnemonic with
  | .sha => glitched (s.a &&& s.x)
  | .shx => glitched s.x
  | .shy => glitched s.y
  | .tas => glitched (s.a &&& s.x)
  | _ => r.ea

/-- The forms that write memory at `storeAddress`: the stores, and the read-modify-writes that do not act on A. -/
abbrev storesAtTarget (i : Instr) : Prop :=
  i.mnemonic ∈ ([.sta, .stx, .sty, .sax, .sha, .shx, .shy, .tas, .inc, .dec, .dcp, .isc, .rla,
    .rra, .slo, .sre] : List Mnemonic) ∨
  (i.mnemonic ∈ ([.asl, .lsr, .rol, .ror] : List Mnemonic) ∧ i.operand.mode ≠ .acc)

/-- The instructions that push. -/
abbrev pushes (i : Instr) : Prop := i.mnemonic ∈ ([.pha, .php, .jsr, .brk] : List Mnemonic)

/-- A state with D set to `d`. -/
def withD (d : Bool) (s : State) : State := { s with p := { s.p with d := d } }

/-- An outcome with D set to `d` in its next state. -/
def outcomeWithD (d : Bool) : Result → Result
  | .next t => .next (withD d t)
  | .fault e => .fault e
  | .refused e => .refused e

end Sys2Proof.Claims

open Sys2Proof.Claims

/-- Decode and encode agree: no operand bit of an encoding is dropped (R100, R102, R104). -/
def Obligations.DecodeEncodeRoundTrip : Prop :=
  ∀ (i : Instr) (rest : List Byte), decode (encode i ++ rest) = .ok (i, rest)

/-- The other direction: a word has one meaning (R100, R102, R105). -/
def Obligations.EncodeDecodeRoundTrip : Prop :=
  ∀ (bs : List Byte) (i : Instr) (rest : List Byte),
    decode bs = .ok (i, rest) → encode i ++ rest = bs

/-- Length and layout (R101, R102, R104). -/
def Obligations.EncodingLayout : Prop :=
  ∀ i : Instr,
    i.WellFormed = true ∧
    (encode i).length =
      (if i.operand.mode = .imp ∨ i.operand.mode = .acc then 1
       else if i.operand.mode = .abs ∨ i.operand.mode = .absx ∨ i.operand.mode = .absy ∨
         i.operand.mode = .ind then 3
       else 2) ∧
    ((∃ m n : Mnemonic, i.asm = ⟨m, .imp⟩ ∨ i.asm = ⟨n, .acc⟩) → encode i = [i.opcode]) ∧
    (∀ b : Byte, i.operand ∈ ([.imm b, .zp b, .zpx b, .zpy b, .izx b, .izy b, .rel b] : List Operand) →
      encode i = [i.opcode, b]) ∧
    (∀ w : Addr, i.operand ∈ ([.abs w, .absx w, .absy w, .ind w] : List Operand) →
      ∃ l h : Byte, encode i = [i.opcode, l, h] ∧ w.toNat = 256 * h.toNat + l.toNat)

/-- Decode is total (R105, R106). -/
def Obligations.DecoderRefusesNoByte : Prop :=
  ∀ (opc b1 b2 : Byte) (rest : List Byte),
    ∃ (i : Instr) (rest' : List Byte),
      decode (opc :: b1 :: b2 :: rest) = .ok (i, rest') ∧ i.opcode = opc

/-- The opcode byte alone selects the descriptor (R109, R110, R129). -/
def Obligations.TableRowIsTheInstructions : Prop :=
  ∀ i : Instr,
    (descriptorOf i.opcode).mnemonic = i.mnemonic ∧
    (descriptorOf i.opcode).mode = i.operand.mode ∧
    (i.mnemonic = .jam → (descriptorOf i.opcode).baseCycles = .jam) ∧
    (i.mnemonic ≠ .jam → ∃ n, (descriptorOf i.opcode).baseCycles = .fixed n ∧ 2 ≤ n ∧ n ≤ 8) ∧
    (i.operand.mode = .rel → (descriptorOf i.opcode).pagePenalty = false)

/-- The 32 opcodes with the penalty flag (R111). -/
def Obligations.PagePenaltyOpcodes : Prop :=
  ∀ opc : Byte, (descriptorOf opc).pagePenalty = true ↔
    opc ∈ ([0x11, 0x19, 0x1C, 0x1D, 0x31, 0x39, 0x3C, 0x3D, 0x51, 0x59,
      0x5C, 0x5D, 0x71, 0x79, 0x7C, 0x7D, 0xB1, 0xB3, 0xB9, 0xBB,
      0xBC, 0xBD, 0xBE, 0xBF, 0xD1, 0xD9, 0xDC, 0xDD, 0xF1, 0xF9,
      0xFC, 0xFD] : List Byte)

/-- A sanity check of a few encodings (R102, R110). -/
def Obligations.SpecWordsDecode : Prop :=
  decode [0b01101001, 0b01011010] = .ok (.adcImm 0x5A, []) ∧
  decode [0b01010110, 0b00010000] = .ok (.lsrZpx 0x10, []) ∧
  decode [0b11001100, 0b00110100, 0b00010010] = .ok (.cpyAbs 0x1234, []) ∧
  decode [0b11010000, 0b11111110] = .ok (.bne 0xFE, []) ∧
  decode [0b01101100, 0b11111111, 0b00000010] = .ok (.jmpInd 0x02FF, []) ∧
  decode [0b10010110, 0b11111111] = .ok (.stxZpy 0xFF, []) ∧
  decode [0b01111000] = .ok (.sei, []) ∧
  decode [0b11101010] = .ok (.nopImpEA, []) ∧
  decode [0b10010011, 0b01000000] = .ok (.shaIzy 0x40, [])

/-- The tick fetches and runs the decoded instruction (R122, R125, R134). -/
def Obligations.StepRunsDecodedInstruction : Prop :=
  (∀ (s : State) (i : Instr), s.jammed = false →
    decode (bytesAtPc i.operand.mode.length { s with extra := 0 }).1 = .ok (i, []) →
    step s = exec i (bytesAtPc i.operand.mode.length { s with extra := 0 }).2) ∧
  (∀ (s : State) (i : Instr), s.jammed = false →
    (∀ k (h : k < (encode i).length),
      byteAt s (s.pc + BitVec.ofNat 16 k) = some ((encode i)[k])) →
    step s = exec i
      { s with extra := 0, pc := s.pc + BitVec.ofNat 16 (encode i).length })

/-- A jammed core is stuck (R121); that the stuck state is a fault is log 10. -/
def Obligations.JammedCoreHasNoStep : Prop :=
  ∀ s : State, s.jammed = true → step s = .fault .jammedCore

/-- The only two outcomes of a tick (R128). -/
def Obligations.TickNeverFails : Prop :=
  ∀ s : State, s.jammed = false →
    ∃ t, step s = .next t ∧ (t.jammed = true ↔ (fetched s).mnemonic = .jam)

/-- PC after a tick (R122, R125); the sentence is the inference that 40_dispatch R132 marks as derived. -/
def Obligations.ProgramCounterAfterTick : Prop :=
  ∀ s t : State, step s = .next t →
    (fetched s).mnemonic ∉ ([.bcc, .bcs, .beq, .bne, .bmi, .bpl, .bvc, .bvs, .jmp, .jsr, .rts, .rti, .brk, .jam] : List Mnemonic) →
    t.pc = s.pc + BitVec.ofNat 16 (fetched s).operand.mode.length

/-- The transient extra-cycle counter (R122, R220); the bound is the inference that 40_dispatch R127 marks as derived. -/
def Obligations.ExtraCyclesOnlyFromBranches : Prop :=
  ∀ s t : State, step s = .next t →
    t.extra ≤ 2 ∧
    (branchTaken (fetched s) s.p = false → t.extra = 0) ∧
    (branchTaken (fetched s) s.p = true → 1 ≤ t.extra)

/-- The RAM window and its mirrors (R65). -/
def Obligations.RamWindow : Prop :=
  ∀ (a b : Addr) (v : Byte) (s : State), s.ram.wf = true → a.toNat < 0x2000 → b.toNat < 0x2000 →
    memRead a s = (s.ram.read (a.toNat % 2048), s) ∧
    memWrite a v s = { s with ram := s.ram.write (a.toNat % 2048) v } ∧
    (b.toNat % 2048 = a.toNat % 2048 → memRead b (memWrite a v s) = (v, memWrite a v s)) ∧
    (b.toNat % 2048 ≠ a.toNat % 2048 → (memRead b (memWrite a v s)).1 = (memRead b s).1)

/-- Open-bus reads and writes (R70, R74, R75). -/
def Obligations.OpenBusAndTriggerReads : Prop :=
  (∀ (s : State), memRead 0x4014 s = (0, s)) ∧
  (∀ (a : Addr) (s : State), 0x4018 ≤ a.toNat → a.toNat ≤ 0x401F →
    memRead a s = (0, s)) ∧
  (∀ (a : Addr) (v : Byte) (s : State), 0x4018 ≤ a.toNat → a.toNat ≤ 0x401F →
    memWrite a v s = s)

/-- Oracle reads (R66, R68, R71, R91, R92); the form of the free answer is log 5. -/
def Obligations.DeviceReadsAreRecordedAnswers : Prop :=
  ∀ (a : Addr) (s : State),
    (0x2000 ≤ a.toNat → a.toNat ≤ 0x3FFF →
      memRead a s = answered (.ppu (BitVec.ofNat 3 (a.toNat % 8))) s) ∧
    ((0x4000 ≤ a.toNat ∧ a.toNat ≤ 0x4013) ∨ a.toNat = 0x4015 →
      memRead a s = answered (.apu a) s) ∧
    (a.toNat = 0x4016 → memRead a s = answered (.ctrl 0) s) ∧
    (a.toNat = 0x4017 → memRead a s = answered (.ctrl 1) s)

/-- Write events (R66, R67, R69, R72, R73), and the read halves of R66 and R73; the form of their free answer is log 5. -/
def Obligations.DeviceWritesAreRecorded : Prop :=
  ∀ (a : Addr) (v : Byte) (s : State),
    (0x2000 ≤ a.toNat → a.toNat ≤ 0x3FFF →
      memRead a s = answered (.ppu (BitVec.ofNat 3 (a.toNat % 8))) s ∧
      memWrite a v s = logged (.ppuWrite (BitVec.ofNat 3 (a.toNat % 8)) v) s) ∧
    ((0x4000 ≤ a.toNat ∧ a.toNat ≤ 0x4013) ∨ a.toNat = 0x4015 →
      memWrite a v s = logged (.apuWrite a v) s) ∧
    (a.toNat = 0x4014 → memWrite a v s = logged (.oamDma v) s) ∧
    (a.toNat = 0x4016 → s.params.write4016ToController = true →
      memWrite a v s = logged (.ctrlWrite v) s) ∧
    (a.toNat = 0x4016 → s.params.write4016ToController = false → memWrite a v s = s) ∧
    (a.toNat = 0x4017 →
      memRead a s = answered (.ctrl 1) s ∧ memWrite a v s = logged (.apuWrite 0x4017 v) s)

/-- The cartridge window (R76, R77); the last clause is the inference that R76 marks as derived. -/
def Obligations.CartridgeWindow : Prop :=
  ∀ (a : Addr) (v : Byte) (s : State), 0x4020 ≤ a.toNat →
    memRead a s = (s.cart.prgRom.read (a.toNat % (16384 * s.cart.prgUnits)), s) ∧
    memWrite a v s = s ∧
    (0x8000 ≤ a.toNat → s.cart.prgUnits = 1 ∨ s.cart.prgUnits = 2 →
      (memRead a s).1 = s.cart.prgRom.read ((a.toNat - 0x8000) % (16384 * s.cart.prgUnits)))

/-- The stack primitives (R81, R82); the last clause is the inference that R82 marks as derived. -/
def Obligations.PushThenPull : Prop :=
  ∀ (v : Byte) (s : State), s.ram.wf = true →
    push v s = { s with
      ram := s.ram.write (0x100 + s.sp.toNat) v
      sp := minus256 s.sp 1 } ∧
    pull s = (s.ram.read (0x100 + (s.sp.toNat + 1) % 256),
      { s with sp := mod256 ((s.sp.toNat + 1) % 256) }) ∧
    (pull (push v s)).1 = v ∧ (pull (push v s)).2.sp = s.sp

/-- Instruction-fetch coherence (R88, R383). -/
def Obligations.StoreSeenByNextFetch : Prop :=
  ∀ (a b : Addr) (v : Byte) (s : State), s.ram.wf = true →
    (a.toNat < 0x2000 → b.toNat < 0x2000 → a.toNat % 2048 = b.toNat % 2048 →
      (fetchByte { memWrite a v s with pc := b }).1 = v) ∧
    (0x4020 ≤ a.toNat →
      fetchByte { memWrite a v s with pc := b } = fetchByte { s with pc := b })

/-- The resolvers without a pointer (R143 to R148, R152), PC being past the instruction. -/
def Obligations.DirectAndIndexedAddresses : Prop :=
  ∀ (b : Byte) (w : Addr) (s : State),
    resolve (.zp b) s = (⟨BitVec.ofNat 16 b.toNat, false, BitVec.ofNat 16 b.toNat⟩, s) ∧
    resolve (.zpx b) s =
      (⟨BitVec.ofNat 16 ((b.toNat + s.x.toNat) % 256), false, BitVec.ofNat 16 b.toNat⟩, s) ∧
    resolve (.zpy b) s =
      (⟨BitVec.ofNat 16 ((b.toNat + s.y.toNat) % 256), false, BitVec.ofNat 16 b.toNat⟩, s) ∧
    resolve (.abs w) s = (⟨w, false, w⟩, s) ∧
    resolve (.absx w) s =
      (⟨BitVec.ofNat 16 ((w.toNat + s.x.toNat) % 65536), decide (w.toNat % 256 + s.x.toNat > 0xFF), w⟩, s) ∧
    resolve (.absy w) s =
      (⟨BitVec.ofNat 16 ((w.toNat + s.y.toNat) % 65536), decide (w.toNat % 256 + s.y.toNat > 0xFF), w⟩, s) ∧
    ((resolve (.absx w) s).1.crossed = true ↔
      (resolve (.absx w) s).1.ea.toNat / 256 ≠ w.toNat / 256) ∧
    (((resolve (.rel b) s).1.ea.toNat : Int) = ((s.pc.toNat : Int) + b.toInt) % 65536 ∧
      (resolve (.rel b) s).1.crossed = false ∧ (resolve (.rel b) s).2 = s)

/-- The pointer modes (R149 to R151); a pointer in a device register is two oracle reads (R90, R156), and the form of their free answers is log 5. -/
def Obligations.PointerAddresses : Prop :=
  (∀ (p q : Addr) (lo hi : Byte) (s : State),
    q.toNat = p.toNat / 256 * 256 + (p.toNat % 256 + 1) % 256 →
    byteAt s p = some lo → byteAt s q = some hi →
    resolve (.ind p) s =
      (⟨BitVec.ofNat 16 (hi.toNat * 256 + lo.toNat), false, BitVec.ofNat 16 (hi.toNat * 256 + lo.toNat)⟩, s)) ∧
  (∀ (p q : Addr) (s : State),
    q.toNat = p.toNat / 256 * 256 + (p.toNat % 256 + 1) % 256 →
    let lo := memRead p s
    let hi := memRead q lo.2
    let ea := BitVec.ofNat 16 (hi.1.toNat * 256 + lo.1.toNat)
    resolve (.ind p) s = (⟨ea, false, ea⟩, hi.2)) ∧
  (∀ (p q : Addr) (l h : ExtPort) (s : State),
    q.toNat = p.toNat / 256 * 256 + (p.toNat % 256 + 1) % 256 →
    devicePort p = some l → devicePort q = some h →
    let lo := answered l s
    let hi := answered h lo.2
    let ea := BitVec.ofNat 16 (hi.1.toNat * 256 + lo.1.toNat)
    resolve (.ind p) s = (⟨ea, false, ea⟩, hi.2) ∧
    hi.2.events = s.events ++ [eventOf l lo.1, eventOf h hi.1] ∧
    exec (.jmpInd p) s = .next { hi.2 with pc := ea, tickCycles := 5 + s.extra }) ∧
  (∀ (b : Byte) (s : State) (target : Nat),
    target = (s.ram.read ((b.toNat + s.x.toNat + 1) % 256)).toNat * 256 +
      (s.ram.read ((b.toNat + s.x.toNat) % 256)).toNat →
    resolve (.izx b) s = (⟨BitVec.ofNat 16 target, false, BitVec.ofNat 16 target⟩, s)) ∧
  (∀ (b : Byte) (s : State) (base : Nat),
    base = (s.ram.read ((b.toNat + 1) % 256)).toNat * 256 + (s.ram.read b.toNat).toNat →
    resolve (.izy b) s =
      (⟨BitVec.ofNat 16 ((base + s.y.toNat) % 65536),
        decide ((s.ram.read b.toNat).toNat + s.y.toNat > 0xFF), BitVec.ofNat 16 base⟩, s))

/-- The operand value (R142, R153, R156) and the frame of reading it. -/
def Obligations.OperandValueAndItsFrame : Prop :=
  ∀ (o : Operand) (r : Resolved) (s : State),
    (o = .acc → operandByte o r s = (s.a, s)) ∧
    (∀ v, o = .imm v → operandByte o r s = (v, s)) ∧
    (o.mode ≠ .imp → o.mode ≠ .acc → o.mode ≠ .imm → operandByte o r s = memRead r.ea s) ∧
    (∃ es n, (resolve o s).2 = { s with events := s.events ++ es, extReads := n }) ∧
    (∃ es n, (operandByte o r s).2 = { s with events := s.events ++ es, extReads := n }) ∧
    (∀ a, byteAt (operandByte o r (resolve o s).2).2 a = byteAt s a)

/-- ADC, SBC, USBC (R170, R171, R172, R320). -/
def Obligations.AddAndSubtract : Prop :=
  ReadCompletes [(0x69, .imm, 2, false), (0x65, .zp, 3, false), (0x75, .zpx, 4, false), (0x6D, .abs, 4, false), (0x7D, .absx, 4, true), (0x79, .absy, 4, true), (0x61, .izx, 6, false), (0x71, .izy, 5, true)] added ∧
  ReadCompletes [(0xE9, .imm, 2, false), (0xE5, .zp, 3, false), (0xF5, .zpx, 4, false), (0xED, .abs, 4, false), (0xFD, .absx, 4, true), (0xF9, .absy, 4, true), (0xE1, .izx, 6, false), (0xF1, .izy, 5, true)]
    (fun m s => added (complement m) s) ∧
  ReadCompletes [(0xEB, .imm, 2, false)] (fun m s => added (complement m) s)

/-- The derived meaning of V and of the borrow (R170, R172). -/
def Obligations.SignedOverflowAndBorrow : Prop :=
  ∀ (m : Byte) (s : State),
    let c : Int := if s.p.c then 1 else 0
    ((addCore m s).p.v = true ↔
      (s.a.toInt + m.toInt + c < -128 ∨ 127 < s.a.toInt + m.toInt + c)) ∧
    (((opSbc m s).a.toNat : Int) = ((s.a.toNat : Int) - m.toNat - (1 - c)) % 256) ∧
    ((opSbc m s).p.c = true ↔ 0 ≤ (s.a.toNat : Int) - m.toNat - (1 - c)) ∧
    ((opSbc m s).p.v = true ↔
      (s.a.toInt - m.toInt - (1 - c) < -128 ∨ 127 < s.a.toInt - m.toInt - (1 - c)))

/-- AND, ORA, EOR, BIT (R173 to R176). -/
def Obligations.LogicalOperations : Prop :=
  ReadCompletes [(0x29, .imm, 2, false), (0x25, .zp, 3, false), (0x35, .zpx, 4, false), (0x2D, .abs, 4, false), (0x3D, .absx, 4, true), (0x39, .absy, 4, true), (0x21, .izx, 6, false), (0x31, .izy, 5, true)]
    (fun m s => loadedA (s.a &&& m) s) ∧
  ReadCompletes [(0x09, .imm, 2, false), (0x05, .zp, 3, false), (0x15, .zpx, 4, false), (0x0D, .abs, 4, false), (0x1D, .absx, 4, true), (0x19, .absy, 4, true), (0x01, .izx, 6, false), (0x11, .izy, 5, true)]
    (fun m s => loadedA (s.a ||| m) s) ∧
  ReadCompletes [(0x49, .imm, 2, false), (0x45, .zp, 3, false), (0x55, .zpx, 4, false), (0x4D, .abs, 4, false), (0x5D, .absx, 4, true), (0x59, .absy, 4, true), (0x41, .izx, 6, false), (0x51, .izy, 5, true)]
    (fun m s => loadedA (s.a ^^^ m) s) ∧
  ReadCompletes [(0x24, .zp, 3, false), (0x2C, .abs, 4, false)]
    (fun m s => { s with p := { s.p with
      z := decide (s.a &&& m = 0), n := m.getLsbD 7, v := m.getLsbD 6 } })

/-- Shifts and rotates (R190 to R194). -/
def Obligations.ShiftsAndRotates : Prop :=
  AccumulatorCompletes [(0x0A, .acc, 2, false)] shiftedLeft ∧
  RmwCompletes [(0x06, .zp, 5, false), (0x16, .zpx, 6, false), (0x0E, .abs, 6, false), (0x1E, .absx, 7, false)] shiftedLeft nothingMore ∧
  AccumulatorCompletes [(0x4A, .acc, 2, false)] shiftedRight ∧
  RmwCompletes [(0x46, .zp, 5, false), (0x56, .zpx, 6, false), (0x4E, .abs, 6, false), (0x5E, .absx, 7, false)] shiftedRight nothingMore ∧
  AccumulatorCompletes [(0x2A, .acc, 2, false)] rotatedLeft ∧
  RmwCompletes [(0x26, .zp, 5, false), (0x36, .zpx, 6, false), (0x2E, .abs, 6, false), (0x3E, .absx, 7, false)] rotatedLeft nothingMore ∧
  AccumulatorCompletes [(0x6A, .acc, 2, false)] rotatedRight ∧
  RmwCompletes [(0x66, .zp, 5, false), (0x76, .zpx, 6, false), (0x6E, .abs, 6, false), (0x7E, .absx, 7, false)] rotatedRight nothingMore

/-- Compares (R200 to R203). -/
def Obligations.Compares : Prop :=
  ReadCompletes [(0xC9, .imm, 2, false), (0xC5, .zp, 3, false), (0xD5, .zpx, 4, false), (0xCD, .abs, 4, false), (0xDD, .absx, 4, true), (0xD9, .absy, 4, true), (0xC1, .izx, 6, false), (0xD1, .izy, 5, true)]
    (fun m s => compared s.a m s) ∧
  ReadCompletes [(0xE0, .imm, 2, false), (0xE4, .zp, 3, false), (0xEC, .abs, 4, false)] (fun m s => compared s.x m s) ∧
  ReadCompletes [(0xC0, .imm, 2, false), (0xC4, .zp, 3, false), (0xCC, .abs, 4, false)] (fun m s => compared s.y m s)

/-- INC, DEC, INX, INY, DEX, DEY (R204 to R209). -/
def Obligations.IncrementsAndDecrements : Prop :=
  RmwCompletes [(0xE6, .zp, 5, false), (0xF6, .zpx, 6, false), (0xEE, .abs, 6, false), (0xFE, .absx, 7, false)] incremented nothingMore ∧
  RmwCompletes [(0xC6, .zp, 5, false), (0xD6, .zpx, 6, false), (0xCE, .abs, 6, false), (0xDE, .absx, 7, false)] decremented nothingMore ∧
  ImpliedCompletes [(0xE8, .imp, 2, false)] (fun s => loadedX (mod256 ((s.x.toNat + 1) % 256)) s) ∧
  ImpliedCompletes [(0xC8, .imp, 2, false)] (fun s => loadedY (mod256 ((s.y.toNat + 1) % 256)) s) ∧
  ImpliedCompletes [(0xCA, .imp, 2, false)] (fun s => loadedX (minus256 s.x 1) s) ∧
  ImpliedCompletes [(0x88, .imp, 2, false)] (fun s => loadedY (minus256 s.y 1) s)

/-- Branches (R220 to R228). -/
def Obligations.Branches : Prop :=
  Completes [(0x90, .rel, 2, false)] (branched (fun s => !s.p.c)) ∧
  Completes [(0xB0, .rel, 2, false)] (branched (fun s => s.p.c)) ∧
  Completes [(0xF0, .rel, 2, false)] (branched (fun s => s.p.z)) ∧
  Completes [(0xD0, .rel, 2, false)] (branched (fun s => !s.p.z)) ∧
  Completes [(0x30, .rel, 2, false)] (branched (fun s => s.p.n)) ∧
  Completes [(0x10, .rel, 2, false)] (branched (fun s => !s.p.n)) ∧
  Completes [(0x50, .rel, 2, false)] (branched (fun s => !s.p.v)) ∧
  Completes [(0x70, .rel, 2, false)] (branched (fun s => s.p.v)) ∧
  (∀ (o : Byte) (s : State),
    ((resolve (.rel o) s).1.ea.toNat : Int) = ((s.pc.toNat : Int) + o.toInt) % 65536)

/-- PHA, PHP and the push image (R240, R242, R243). -/
def Obligations.Pushes : Prop :=
  ImpliedCompletes [(0x48, .imp, 3, false)] (fun s => push s.a s) ∧
  ImpliedCompletes [(0x08, .imp, 3, false)] (fun s => push (s.p.pack ||| 0b00110000) s) ∧
  (∀ p : Status, pushImage p = p.pack ||| 0b00110000) ∧
  (∀ s : State, s.ram.wf = true →
    ∃ t, exec .brk s = .next t ∧
      byteAt t (stackAddr (s.sp - 2)) = some (s.p.pack ||| 0b00110000))

/-- The status byte (R35, R240). -/
def Obligations.StatusPacking : Prop :=
  (∀ p : Status,
    p.pack.getLsbD 0 = p.c ∧ p.pack.getLsbD 1 = p.z ∧ p.pack.getLsbD 2 = p.i ∧
    p.pack.getLsbD 3 = p.d ∧ p.pack.getLsbD 4 = p.b ∧ p.pack.getLsbD 5 = p.u ∧
    p.pack.getLsbD 6 = p.v ∧ p.pack.getLsbD 7 = p.n ∧ Status.unpack p.pack = p ∧
    Status.unpack (pushImage p) = { p with b := true, u := true }) ∧
  (∀ v : Byte, (Status.unpack v).pack = v) ∧
  State.reset.p.pack = 0x24

/-- PLA, PLP (R241, R244, R245). -/
def Obligations.Pulls : Prop :=
  ImpliedCompletes [(0x68, .imp, 4, false)]
    (fun s => loadedA (pull s).1 (pull s).2) ∧
  ImpliedCompletes [(0x28, .imp, 4, false)]
    (fun s => { (pull s).2 with p := restored s.params s.p (pull s).1 })

/-- JSR, RTS (R246, R247). -/
def Obligations.SubroutineCallAndReturn : Prop :=
  Completes [(0x20, .abs, 6, false)] (fun i s =>
    let ret := s.pc - 1
    ({ push (ret.setWidth 8) (push (ret.extractLsb' 8 8) s) with pc := i.operand.word }, false)) ∧
  ImpliedCompletes [(0x60, .imp, 6, false)] (fun s =>
    let l := pull s
    let h := pull l.2
    { h.2 with pc := BitVec.ofNat 16 ((h.1.toNat * 256 + l.1.toNat + 1) % 65536) })

/-- Trap entry (R249; R346 sums it up). -/
def Obligations.TrapEntry : Prop :=
  ImpliedCompletes [(0x00, .imp, 7, false)] (fun s =>
    let ret := s.pc + 1
    let t := push (s.p.pack ||| 0b00110000) (push (ret.setWidth 8) (push (ret.extractLsb' 8 8) s))
    { t with
      p := { s.p with i := true }
      pc := BitVec.ofNat 16 ((s.cart.prgRom.read (0xFFFF % (16384 * s.cart.prgUnits))).toNat * 256 +
        (s.cart.prgRom.read (0xFFFE % (16384 * s.cart.prgUnits))).toNat) }) ∧
  (∀ s t : State, exec .brk s = .next t → t.sp = minus256 s.sp 3)

/-- Trap return (R248). -/
def Obligations.TrapReturn : Prop :=
  ImpliedCompletes [(0x40, .imp, 6, false)] (fun s =>
    let v := pull s
    let l := pull v.2
    let h := pull l.2
    { h.2 with
      p := restored s.params s.p v.1
      pc := BitVec.ofNat 16 (h.1.toNat * 256 + l.1.toNat) })

/-- JMP (R250). -/
def Obligations.Jumps : Prop :=
  Completes [(0x4C, .abs, 3, false)] (fun i s => ({ s with pc := i.operand.word }, false)) ∧
  Completes [(0x6C, .ind, 5, false)] (fun i s =>
    let r := resolve i.operand s
    ({ r.2 with pc := r.1.ea }, false)) ∧
  (∀ (p q : Addr) (lo hi : Byte) (s : State),
    q.toNat = p.toNat / 256 * 256 + (p.toNat % 256 + 1) % 256 →
    byteAt s p = some lo → byteAt s q = some hi →
    ∃ t, exec (.jmpInd p) s = .next t ∧ t.pc.toNat = hi.toNat * 256 + lo.toNat)

/-- Transfers (R260 to R265). -/
def Obligations.Transfers : Prop :=
  ImpliedCompletes [(0xAA, .imp, 2, false)] (fun s => loadedX s.a s) ∧
  ImpliedCompletes [(0xA8, .imp, 2, false)] (fun s => loadedY s.a s) ∧
  ImpliedCompletes [(0x8A, .imp, 2, false)] (fun s => loadedA s.x s) ∧
  ImpliedCompletes [(0x98, .imp, 2, false)] (fun s => loadedA s.y s) ∧
  ImpliedCompletes [(0xBA, .imp, 2, false)] (fun s => loadedX s.sp s) ∧
  ImpliedCompletes [(0x9A, .imp, 2, false)] (fun s => { s with sp := s.x })

/-- Loads (R266 to R268, R306, R307). -/
def Obligations.Loads : Prop :=
  ReadCompletes [(0xA9, .imm, 2, false), (0xA5, .zp, 3, false), (0xB5, .zpx, 4, false), (0xAD, .abs, 4, false), (0xBD, .absx, 4, true), (0xB9, .absy, 4, true), (0xA1, .izx, 6, false), (0xB1, .izy, 5, true)] loadedA ∧
  ReadCompletes [(0xA2, .imm, 2, false), (0xA6, .zp, 3, false), (0xB6, .zpy, 4, false), (0xAE, .abs, 4, false), (0xBE, .absy, 4, true)] loadedX ∧
  ReadCompletes [(0xA0, .imm, 2, false), (0xA4, .zp, 3, false), (0xB4, .zpx, 4, false), (0xAC, .abs, 4, false), (0xBC, .absx, 4, true)] loadedY ∧
  ReadCompletes [(0xA7, .zp, 3, false), (0xB7, .zpy, 4, false), (0xAF, .abs, 4, false), (0xBF, .absy, 4, true), (0xA3, .izx, 6, false), (0xB3, .izy, 5, true)]
    (fun m s => { s with a := m, x := m, p := withNZ m s.p }) ∧
  ReadCompletes [(0xBB, .absy, 4, true)] (fun m s =>
    let v := m &&& s.sp
    { s with a := v, x := v, sp := v, p := withNZ v s.p })

/-- Stores (R269 to R271, R311). -/
def Obligations.Stores : Prop :=
  StoreCompletes [(0x85, .zp, 3, false), (0x95, .zpx, 4, false), (0x8D, .abs, 4, false), (0x9D, .absx, 5, false), (0x99, .absy, 5, false), (0x81, .izx, 6, false), (0x91, .izy, 6, false)] (fun s => s.a) ∧
  StoreCompletes [(0x86, .zp, 3, false), (0x96, .zpy, 4, false), (0x8E, .abs, 4, false)] (fun s => s.x) ∧
  StoreCompletes [(0x84, .zp, 3, false), (0x94, .zpx, 4, false), (0x8C, .abs, 4, false)] (fun s => s.y) ∧
  StoreCompletes [(0x87, .zp, 3, false), (0x97, .zpy, 4, false), (0x8F, .abs, 4, false), (0x83, .izx, 6, false)] (fun s => s.a &&& s.x)

/-- Flag instructions (R280 to R286). -/
def Obligations.FlagInstructions : Prop :=
  ImpliedCompletes [(0x18, .imp, 2, false)] (fun s => { s with p := { s.p with c := false } }) ∧
  ImpliedCompletes [(0x38, .imp, 2, false)] (fun s => { s with p := { s.p with c := true } }) ∧
  ImpliedCompletes [(0x58, .imp, 2, false)] (fun s => { s with p := { s.p with i := false } }) ∧
  ImpliedCompletes [(0x78, .imp, 2, false)] (fun s => { s with p := { s.p with i := true } }) ∧
  ImpliedCompletes [(0xD8, .imp, 2, false)] (fun s => { s with p := { s.p with d := false } }) ∧
  ImpliedCompletes [(0xF8, .imp, 2, false)] (fun s => { s with p := { s.p with d := true } }) ∧
  ImpliedCompletes [(0xB8, .imp, 2, false)] (fun s => { s with p := { s.p with v := false } })

/-- NOP (R287). -/
def Obligations.NoOperations : Prop :=
  Completes [(0x1A, .imp, 2, false), (0x3A, .imp, 2, false), (0x5A, .imp, 2, false), (0x7A, .imp, 2, false), (0xDA, .imp, 2, false), (0xEA, .imp, 2, false), (0xFA, .imp, 2, false), (0x80, .imm, 2, false), (0x82, .imm, 2, false), (0x89, .imm, 2, false), (0xC2, .imm, 2, false), (0xE2, .imm, 2, false)]
    (fun _ s => (s, false)) ∧
  Completes [(0x04, .zp, 3, false), (0x44, .zp, 3, false), (0x64, .zp, 3, false), (0x14, .zpx, 4, false), (0x34, .zpx, 4, false), (0x54, .zpx, 4, false), (0x74, .zpx, 4, false), (0xD4, .zpx, 4, false), (0xF4, .zpx, 4, false), (0x0C, .abs, 4, false), (0x1C, .absx, 4, true), (0x3C, .absx, 4, true), (0x5C, .absx, 4, true), (0x7C, .absx, 4, true), (0xDC, .absx, 4, true), (0xFC, .absx, 4, true)]
    (fun i s =>
      let r := resolve i.operand s
      (if s.params.nopReadsOperand = true then (memRead r.1.ea s).2 else s, r.1.crossed))

/-- ALR, ANC, ARR, SBX, ANE, LXA (R301 to R303, R308, R312, R319). -/
def Obligations.ImmediateCombinations : Prop :=
  ReadCompletes [(0x4B, .imm, 2, false)] (fun m s =>
    { s with a := (shiftedRight (s.a &&& m) s).1, p := (shiftedRight (s.a &&& m) s).2 }) ∧
  ReadCompletes [(0x0B, .imm, 2, false), (0x2B, .imm, 2, false)] (fun m s =>
    { s with
      a := s.a &&& m
      p := { withNZ (s.a &&& m) s.p with c := (s.a &&& m).getLsbD 7 } }) ∧
  ReadCompletes [(0x6B, .imm, 2, false)] (fun m s =>
    let r := (rotatedRight (s.a &&& m) s).1
    { s with
      a := r
      p := { withNZ r s.p with c := r.getLsbD 6, v := r.getLsbD 6 != r.getLsbD 5 } }) ∧
  ReadCompletes [(0xCB, .imm, 2, false)] (fun m s =>
    { s with
      x := minus256 (s.a &&& s.x) m
      p := { withNZ (minus256 (s.a &&& s.x) m) s.p with
        c := decide (m.toNat ≤ (s.a &&& s.x).toNat) } }) ∧
  ReadCompletes [(0x8B, .imm, 2, false)] (fun m s =>
    loadedA ((s.a ||| s.params.aneConst) &&& s.x &&& m) s) ∧
  ReadCompletes [(0xAB, .imm, 2, false)] (fun m s =>
    let v := (s.a ||| s.params.lxaConst) &&& m
    { s with a := v, x := v, p := withNZ v s.p })

/-- The combined read-modify-writes (R304, R305, R309, R310, R316, R317). -/
def Obligations.CombinedReadModifyWrites : Prop :=
  RmwCompletes [(0xC7, .zp, 5, false), (0xD7, .zpx, 6, false), (0xCF, .abs, 6, false), (0xDF, .absx, 7, false), (0xDB, .absy, 7, false), (0xC3, .izx, 8, false), (0xD3, .izy, 8, false)]
    decremented (fun r s => compared s.a r s) ∧
  RmwCompletes [(0xE7, .zp, 5, false), (0xF7, .zpx, 6, false), (0xEF, .abs, 6, false), (0xFF, .absx, 7, false), (0xFB, .absy, 7, false), (0xE3, .izx, 8, false), (0xF3, .izy, 8, false)]
    incremented (fun r s => added (complement r) s) ∧
  RmwCompletes [(0x27, .zp, 5, false), (0x37, .zpx, 6, false), (0x2F, .abs, 6, false), (0x3F, .absx, 7, false), (0x3B, .absy, 7, false), (0x23, .izx, 8, false), (0x33, .izy, 8, false)]
    rotatedLeft (fun r s => loadedA (s.a &&& r) s) ∧
  RmwCompletes [(0x67, .zp, 5, false), (0x77, .zpx, 6, false), (0x6F, .abs, 6, false), (0x7F, .absx, 7, false), (0x7B, .absy, 7, false), (0x63, .izx, 8, false), (0x73, .izy, 8, false)]
    rotatedRight added ∧
  RmwCompletes [(0x07, .zp, 5, false), (0x17, .zpx, 6, false), (0x0F, .abs, 6, false), (0x1F, .absx, 7, false), (0x1B, .absy, 7, false), (0x03, .izx, 8, false), (0x13, .izy, 8, false)]
    shiftedLeft (fun r s => loadedA (s.a ||| r) s) ∧
  RmwCompletes [(0x47, .zp, 5, false), (0x57, .zpx, 6, false), (0x4F, .abs, 6, false), (0x5F, .absx, 7, false), (0x5B, .absy, 7, false), (0x43, .izx, 8, false), (0x53, .izy, 8, false)]
    shiftedRight (fun r s => loadedA (s.a ^^^ r) s)

/-- SHA, SHX, SHY, TAS (R313, R314, R315, R318, R322). -/
def Obligations.HighByteStores : Prop :=
  Completes [(0x9F, .absy, 5, false), (0x93, .izy, 6, false)] (fun i s =>
    let r := resolve i.operand s
    (shStored (s.a &&& s.x) r.1 r.2, r.1.crossed)) ∧
  Completes [(0x9E, .absy, 5, false)] (fun i s =>
    let r := resolve i.operand s
    (shStored s.x r.1 r.2, r.1.crossed)) ∧
  Completes [(0x9C, .absx, 5, false)] (fun i s =>
    let r := resolve i.operand s
    (shStored s.y r.1 r.2, r.1.crossed)) ∧
  Completes [(0x9B, .absy, 5, false)] (fun i s =>
    let r := resolve i.operand s
    (shStored (s.a &&& s.x) r.1 { r.2 with sp := s.a &&& s.x }, r.1.crossed))

/-- JAM (R321). -/
def Obligations.JamLocksUp : Prop :=
  (∀ (i : Instr) (s : State),
    i.opcode ∈ ([0x02, 0x12, 0x22, 0x32, 0x42, 0x52, 0x62, 0x72, 0x92, 0xB2, 0xD2, 0xF2] : List Byte) →
    i.operand.mode = .imp ∧
    exec i s = .next { s with
      jammed := true
      tickCycles := s.params.jamCycles + s.extra }) ∧
  (∀ s t : State, s.jammed = true → step s ≠ .next t)

/-- The writers of the registers (R30 to R33). -/
def Obligations.RegisterWriters : Prop :=
  ∀ (i : Instr) (s t : State), exec i s = .next t →
    (i.mnemonic ∉ ([.adc, .sbc, .and, .ora, .eor, .asl, .lsr, .rol, .ror, .lda, .pla, .txa, .tya,
        .alr, .anc, .arr, .isc, .las, .lax, .lxa, .rla, .rra, .slo, .sre, .ane, .usbc] : List Mnemonic) →
      t.a = s.a) ∧
    (i.mnemonic ∈ ([.asl, .lsr, .rol, .ror] : List Mnemonic) → i.operand.mode ≠ .acc → t.a = s.a) ∧
    (i.mnemonic ∉ ([.ldx, .tax, .tsx, .inx, .dex, .lax, .las, .lxa, .sbx] : List Mnemonic) →
      t.x = s.x) ∧
    (i.mnemonic ∉ ([.ldy, .tay, .iny, .dey] : List Mnemonic) → t.y = s.y) ∧
    (i.mnemonic ∉ ([.txs, .las, .tas, .pha, .php, .pla, .plp, .jsr, .rts, .rti, .brk] : List Mnemonic) →
      t.sp = s.sp)

/-- The writers of the flags (R36 to R43). -/
def Obligations.FlagWriters : Prop :=
  ∀ (i : Instr) (s t : State), exec i s = .next t →
    (i.mnemonic ∉ ([.adc, .sbc, .usbc, .asl, .lsr, .rol, .ror, .cmp, .cpx, .cpy, .clc, .sec, .plp, .rti,
        .alr, .anc, .arr, .dcp, .isc, .rla, .rra, .sbx, .slo, .sre] : List Mnemonic) → t.p.c = s.p.c) ∧
    (i.mnemonic ∉ ([.sei, .cli, .brk, .plp, .rti] : List Mnemonic) → t.p.i = s.p.i) ∧
    (i.mnemonic ∉ ([.sed, .cld, .plp, .rti] : List Mnemonic) → t.p.d = s.p.d) ∧
    (i.mnemonic ∉ ([.plp, .rti] : List Mnemonic) → t.p.b = s.p.b) ∧
    (s.p.u = true → t.p.u = true) ∧
    (i.mnemonic ∉ ([.plp, .rti] : List Mnemonic) → t.p.u = s.p.u) ∧
    (i.mnemonic ∉ ([.adc, .sbc, .usbc, .rra, .isc, .bit, .arr, .clv, .plp, .rti] : List Mnemonic) →
      t.p.v = s.p.v) ∧
    (i.mnemonic ∈ ([.bcc, .bcs, .beq, .bne, .bmi, .bpl, .bvc, .bvs, .pha, .php, .jsr, .rts, .brk, .jmp,
        .txs, .sta, .stx, .sty, .clc, .sec, .cli, .sei, .cld, .sed, .clv, .nop, .sax, .sha, .shx, .shy,
        .tas, .jam] : List Mnemonic) → t.p.z = s.p.z ∧ t.p.n = s.p.n)

/-- The memory frame of the forms that store nothing (R130, R131). -/
def Obligations.NonStoringFormsKeepMemory : Prop :=
  ∀ (i : Instr) (s t : State), ¬ storesAtTarget i → ¬ pushes i → exec i s = .next t →
    (∀ a : Addr, byteAt t a = byteAt s a) ∧ t.ram = s.ram ∧ ∃ es, t.events = s.events ++ es

/-- The memory frame of the storing forms (R154, R155, R322). -/
def Obligations.StoringFormsWriteOnlyTheirTarget : Prop :=
  ∀ (i : Instr) (s t : State), storesAtTarget i → exec i s = .next t →
    ∀ a target : Addr, target = storeAddress i s → region a ≠ region target →
      byteAt t a = byteAt s a

/-- The memory frame of the pushes (R81). -/
def Obligations.PushesWriteOnlyTheStack : Prop :=
  ∀ (i : Instr) (s t : State), pushes i → exec i s = .next t →
    ∀ a : Addr,
      region a ≠ region (stackAddr s.sp) →
      (i.mnemonic = .jsr ∨ i.mnemonic = .brk → region a ≠ region (stackAddr (s.sp - 1))) →
      (i.mnemonic = .brk → region a ≠ region (stackAddr (s.sp - 2))) →
      byteAt t a = byteAt s a

/-- What no step changes (R44, R48, R92). -/
def Obligations.ConstantsOfTheMachine : Prop :=
  ∀ s t : State, step s = .next t →
    t.cart = s.cart ∧ t.params = s.params ∧
    (t.jammed = true → (fetched s).mnemonic = .jam) ∧
    (∃ es, t.events = s.events ++ es) ∧ s.extReads ≤ t.extReads

/-- The invariant of a reset machine (R41, R47, R48). -/
def Obligations.StepKeepsInvariant : Prop :=
  ∀ s t : State, s.Inv → step s = .next t → t.Inv

/-- The invariant holds at reset; the power-on values and the cartridge are the choice of logs 2, 3 and 4. -/
def Obligations.ResetHasInvariant : Prop :=
  State.reset.Inv ∧
  State.reset = applyReset (powerOnState Config.defaultParams ⟨0, 0, 0, 0, 0, 0, []⟩ Cartridge.blank)

/-- What init and reset leave (R370, R375, R376). -/
def Obligations.InitThenResetHasInvariant : Prop :=
  ∀ (params : Params) (po : PowerOn) (file : List Byte) (s : State),
    init params po file = .ok s →
      s.a = po.a ∧ s.x = po.x ∧ s.y = po.y ∧ s.sp = po.sp ∧ s.pc = po.pc ∧ s.p.pack = po.p ∧
      (∀ k b, k < 2048 → po.ram[k]? = some b → byteAt s (BitVec.ofNat 16 k) = some b) ∧
      s.Loaded ∧ s.jammed = false ∧ s.events = [] ∧ s.params = params ∧ (applyReset s).Inv

/-- reset() (R376 to R378). -/
def Obligations.ResetEffect : Prop :=
  (∀ s : State, applyReset s = { s with
    sp := 0xFD
    p := Status.unpack 0x24
    pc := BitVec.ofNat 16 ((s.cart.prgRom.read (0xFFFD % (16384 * s.cart.prgUnits))).toNat * 256 +
      (s.cart.prgRom.read (0xFFFC % (16384 * s.cart.prgUnits))).toNat) }) ∧
  (∀ s t : State, s.jammed = true → step (applyReset s) ≠ .next t)

/-- The cartridge load (R371 to R374) and what the cartridge then holds (R48). -/
def Obligations.LoadSucceedsOrFails : Prop :=
  ∀ (params : Params) (po : PowerOn) (file : List Byte),
    let h := headerOf file
    let t := if h.ctrl1.getLsbD 2 then 512 else 0
    let L := 16 + t + 16384 * h.prgUnits.toNat + 8192 * h.chrUnits.toNat
    ((∃ s, init params po file = .ok s) ↔
      16 ≤ file.length ∧ file.take 4 = [0x4E, 0x45, 0x53, 0x1A] ∧ h.prgUnits ≠ 0 ∧
      h.ctrl2.toNat / 16 * 16 + h.ctrl1.toNat / 16 = 0 ∧ L ≤ file.length) ∧
    (∀ s, init params po file = .ok s →
      s.cart.prgUnits = h.prgUnits.toNat ∧ s.cart.chrUnits = h.chrUnits.toNat ∧
      (∀ k, k < 16384 * h.prgUnits.toNat →
        s.cart.prgRom.read k = fileByte file (16 + t + k)) ∧
      (∀ k, k < 8192 * h.chrUnits.toNat →
        s.cart.chrRom.read k = fileByte file (16 + t + 16384 * h.prgUnits.toNat + k)) ∧
      (s.cart.mirroring = .vertical ↔ h.ctrl1.getLsbD 0 = true) ∧
      s.cart.fourScreen = h.ctrl1.getLsbD 3 ∧ s.cart.mapperId = 0)

/-- Trap entry and return fit together (R347); s is the state after the fetch, so s.pc + 1 is pc0 + 2. -/
def Obligations.TrapThenReturnResumes : Prop :=
  ∀ s : State, s.ram.wf = true →
    ∃ t, exec .brk s = .next t ∧
      ∀ u : State, u.ram = t.ram → u.sp = t.sp → u.params = s.params →
        ∃ w, exec .rti u = .next w ∧ w.pc = s.pc + 1 ∧ w.sp = s.sp ∧
          w.p = { s.p with
            u := true
            b := if s.params.plpBreak = .fromStack then true
              else if s.params.plpBreak = .keep then u.p.b else false }

/-- Call and return fit together (R246, R247); s is the state after the fetch. -/
def Obligations.CallThenReturnResumes : Prop :=
  ∀ (s : State) (w : Addr), s.ram.wf = true →
    ∃ t, exec (.jsrAbs w) s = .next t ∧ t.pc = w ∧
      ∀ u : State, u.ram = t.ram → u.sp = t.sp →
        ∃ v, exec .rts u = .next v ∧ v.pc = s.pc ∧ v.sp = s.sp

/-- Decimal mode is not part of this block (R5, R39, R177). -/
def Obligations.DecimalFlagIsInert : Prop :=
  ∀ (i : Instr) (s : State) (d : Bool),
    i.mnemonic ∉ ([.cld, .sed, .plp, .rti, .php, .brk] : List Mnemonic) →
      exec i (withD d s) = outcomeWithD d (exec i s)

/-- The driver (R352 to R354) and its reset (R379). -/
def Obligations.DriverCountsCycles : Prop :=
  (∀ (d : Driver) (t : State), step d.machine = .next t →
    ∃ opc : Byte, opc = (memRead d.machine.pc d.machine).1 ∧
      d.tick = .next
        { machine := t
          cyc := d.cyc + t.tickCycles
          ppuTicks := d.ppuTicks + 3 * t.tickCycles
          apuTicks := d.apuTicks + t.tickCycles
          trace := d.trace ++ [⟨d.machine.pc, opc, d.machine.a, d.machine.x, d.machine.y,
            d.machine.p.pack, d.machine.sp, d.cyc⟩] }) ∧
  (∀ d : Driver, d.reset =
    { machine := applyReset d.machine
      cyc := d.cyc + d.machine.params.resetCycles
      ppuTicks := d.ppuTicks
      apuTicks := d.apuTicks
      trace := d.trace })
end

