-- ==== Sys2Proof/Laws/Memory.lean ====
section
/-! SUPPORT. The laws of the sparse memory: read after write, every other key untouched, and the canonical form kept. -/

namespace Sys2Proof.Machine.Memory

theorem all_lt_trans {j k : Nat} {m : Memory} (hjk : j < k)
    (h : m.all (fun cell => k < cell.1) = true) : m.all (fun cell => j < cell.1) = true := by
  simp only [List.all_eq_true, decide_eq_true_eq] at *
  intro c hc
  have := h c hc
  omega

/-- A key below every listed key reads as unlisted. -/
theorem read_of_all_lt (m : Memory) (k : Nat) (h : m.all (fun cell => k < cell.1) = true) :
    read m k = unlisted := by
  induction m with
  | nil => rfl
  | cons c rest ih =>
    obtain ⟨j, w⟩ := c
    simp only [List.all_cons, Bool.and_eq_true, decide_eq_true_eq] at h
    have : k ≠ j := by omega
    simp [read, this, ih h.2]

theorem wf_cons {k : Nat} {v : Byte} {rest : Memory} :
    wf ((k, v) :: rest) = true ↔
      v ≠ unlisted ∧ rest.all (fun cell => k < cell.1) = true ∧ wf rest = true := by
  simp [wf, and_assoc]

/-- A write leaves the keys above `j` above `j`. -/
theorem all_lt_write (m : Memory) (j k : Nat) (v : Byte) (hj : j < k)
    (h : m.all (fun cell => j < cell.1) = true) :
    (write m k v).all (fun cell => j < cell.1) = true := by
  induction m with
  | nil => unfold write; split <;> simp [hj]
  | cons c rest ih =>
    obtain ⟨i, w⟩ := c
    simp only [List.all_cons, Bool.and_eq_true, decide_eq_true_eq] at h
    unfold write
    split
    · split <;> simp only [List.all_cons, Bool.and_eq_true, decide_eq_true_eq] <;> tauto
    · split
      · split
        · exact h.2
        · simp only [List.all_cons, Bool.and_eq_true, decide_eq_true_eq]
          tauto
      · simp only [List.all_cons, Bool.and_eq_true, decide_eq_true_eq]
        exact ⟨h.1, ih h.2⟩

/-- Every write keeps the canonical form. -/
theorem wf_write (m : Memory) (k : Nat) (v : Byte) (h : wf m = true) : wf (write m k v) = true := by
  induction m with
  | nil => unfold write; split <;> simp_all [wf]
  | cons c rest ih =>
    obtain ⟨j, w⟩ := c
    have hc := wf_cons.mp h
    unfold write
    split
    · rename_i hlt
      split
      · exact h
      · rename_i hv
        refine wf_cons.mpr ⟨hv, ?_, h⟩
        simp only [List.all_cons, hlt, decide_true, Bool.true_and]
        exact all_lt_trans hlt hc.2.1
    · rename_i hnlt
      split
      · rename_i heq
        subst heq
        split
        · exact hc.2.2
        · rename_i hv
          exact wf_cons.mpr ⟨hv, hc.2.1, hc.2.2⟩
      · rename_i hne
        exact wf_cons.mpr ⟨hc.1, all_lt_write rest j k v (by omega) hc.2.1, ih hc.2.2⟩

/-- A write below `n` keeps every key below `n`. -/
theorem below_write (m : Memory) (n k : Nat) (v : Byte) (hk : k < n) (h : below n m = true) :
    below n (write m k v) = true := by
  unfold below at *
  induction m with
  | nil => unfold write; split <;> simp [hk]
  | cons c rest ih =>
    obtain ⟨j, w⟩ := c
    simp only [List.all_cons, Bool.and_eq_true, decide_eq_true_eq] at h
    unfold write
    split
    · split <;> simp only [List.all_cons, Bool.and_eq_true, decide_eq_true_eq] <;> tauto
    · split
      · split
        · exact h.2
        · simp only [List.all_cons, Bool.and_eq_true, decide_eq_true_eq]
          tauto
      · simp only [List.all_cons, Bool.and_eq_true, decide_eq_true_eq]
        exact ⟨h.1, ih h.2⟩

/-- Read after write, in the canonical form. -/
theorem read_write_same (m : Memory) (k : Nat) (v : Byte) (h : wf m = true) :
    read (write m k v) k = v := by
  induction m with
  | nil => unfold write; split <;> simp_all [read]
  | cons c rest ih =>
    obtain ⟨j, w⟩ := c
    have hc := wf_cons.mp h
    unfold write
    split
    · rename_i hlt
      split
      · rename_i hv
        have hne : k ≠ j := by omega
        simp [read, hne, read_of_all_lt rest k (all_lt_trans hlt hc.2.1), hv]
      · simp [read]
    · split
      · rename_i heq
        subst heq
        split
        · rename_i hv
          rw [read_of_all_lt rest k hc.2.1, hv]
        · simp [read]
      · rename_i hne
        simp [read, hne, ih hc.2.2]

/-- A write leaves every other key alone. -/
theorem read_write_other (m : Memory) (k j : Nat) (v : Byte) (hjk : j ≠ k) :
    read (write m k v) j = read m j := by
  induction m with
  | nil => unfold write; split <;> simp [read, hjk]
  | cons c rest ih =>
    obtain ⟨i, w⟩ := c
    unfold write
    split
    · split <;> simp [read, hjk]
    · split
      · rename_i heq
        subst heq
        split <;> simp [read, hjk]
      · simp [read, ih]

theorem all_lt_ofBytesFrom (bs : List Byte) (j k : Nat) (h : j < k) :
    (ofBytesFrom k bs).all (fun cell => j < cell.1) = true := by
  induction bs generalizing k with
  | nil => rfl
  | cons b rest ih =>
    unfold ofBytesFrom
    split
    · exact ih (k + 1) (by omega)
    · simp only [List.all_cons, Bool.and_eq_true, decide_eq_true_eq]
      exact ⟨h, ih (k + 1) (by omega)⟩

/-- The bytes of a file are in the canonical form. -/
theorem wf_ofBytesFrom (bs : List Byte) (k : Nat) : wf (ofBytesFrom k bs) = true := by
  induction bs generalizing k with
  | nil => rfl
  | cons b rest ih =>
    unfold ofBytesFrom
    split
    · exact ih (k + 1)
    · rename_i hb
      exact wf_cons.mpr ⟨hb, all_lt_ofBytesFrom rest k (k + 1) (by omega), ih (k + 1)⟩

theorem below_ofBytesFrom (bs : List Byte) (k n : Nat) (h : k + bs.length ≤ n) :
    below n (ofBytesFrom k bs) = true := by
  induction bs generalizing k with
  | nil => rfl
  | cons b rest ih =>
    simp only [List.length_cons] at h
    have ih' := ih (k + 1) (by omega)
    unfold ofBytesFrom
    split
    · exact ih'
    · unfold below at *
      simp only [List.all_cons, Bool.and_eq_true, decide_eq_true_eq]
      exact ⟨by omega, ih'⟩

/-- Byte `j` of a file is what its key reads as. -/
theorem read_ofBytesFrom (bs : List Byte) (k j : Nat) (hk : k ≤ j) :
    read (ofBytesFrom k bs) j = (bs[j - k]?).getD unlisted := by
  induction bs generalizing k with
  | nil => rfl
  | cons b rest ih =>
    by_cases hj : j = k
    · subst hj
      unfold ofBytesFrom
      split
      · rename_i hb
        rw [read_of_all_lt _ _ (all_lt_ofBytesFrom rest j (j + 1) (by omega))]
        simp [hb]
      · simp [read]
    · have hi := ih (k + 1) (by omega)
      have hsub : j - k = (j - (k + 1)) + 1 := by omega
      unfold ofBytesFrom
      split
      · rw [hi, hsub, List.getElem?_cons_succ]
      · simp only [read, hj, if_false]
        rw [hi, hsub, List.getElem?_cons_succ]

/-- In the canonical form a memory is determined by what it reads as. -/
theorem eq_of_read_eq {m n : Memory} (hm : wf m = true) (hn : wf n = true)
    (h : ∀ k, read m k = read n k) : m = n := by
  induction m generalizing n with
  | nil =>
    cases n with
    | nil => rfl
    | cons c rest =>
      obtain ⟨k, v⟩ := c
      exact absurd (by simpa [read] using (h k).symm) (wf_cons.mp hn).1
  | cons c rest ih =>
    obtain ⟨k, v⟩ := c
    have hc := wf_cons.mp hm
    cases n with
    | nil => exact absurd (by simpa [read] using h k) hc.1
    | cons d rest' =>
      obtain ⟨j, w⟩ := d
      have hd := wf_cons.mp hn
      have hkj : k = j := by
        rcases Nat.lt_trichotomy k j with hlt | heq | hgt
        · have hk := h k
          have hne : k ≠ j := by omega
          simp only [read, if_true, hne, if_false] at hk
          rw [read_of_all_lt rest' k (all_lt_trans hlt hd.2.1)] at hk
          exact absurd hk hc.1
        · exact heq
        · have hj := h j
          have hne : j ≠ k := by omega
          simp only [read, if_true, hne, if_false] at hj
          rw [read_of_all_lt rest j (all_lt_trans hgt hc.2.1)] at hj
          exact absurd hj.symm hd.1
      subst hkj
      have hvw : v = w := by simpa [read] using h k
      subst hvw
      congr 1
      apply ih hc.2.2 hd.2.2
      intro i
      by_cases hi : i = k
      · subst hi
        rw [read_of_all_lt rest i hc.2.1, read_of_all_lt rest' i hd.2.1]
      · simpa [read, hi] using h i

end Sys2Proof.Machine.Memory
end

