-- ==== Sys2Proof/Laws/State.lean ====
section
/-! SUPPORT. One lemma per field per update of State, so that no later proof unfolds a record update. -/

namespace Sys2Proof.Machine.State

section
variable (v : Byte) (s : State)
@[simp] theorem setA_a : (s.setA v).a = v := rfl
@[simp] theorem setA_x : (s.setA v).x = s.x := rfl
@[simp] theorem setA_y : (s.setA v).y = s.y := rfl
@[simp] theorem setA_sp : (s.setA v).sp = s.sp := rfl
@[simp] theorem setA_pc : (s.setA v).pc = s.pc := rfl
@[simp] theorem setA_p : (s.setA v).p = s.p := rfl
@[simp] theorem setA_jammed : (s.setA v).jammed = s.jammed := rfl
@[simp] theorem setA_extra : (s.setA v).extra = s.extra := rfl
@[simp] theorem setA_ram : (s.setA v).ram = s.ram := rfl
@[simp] theorem setA_cart : (s.setA v).cart = s.cart := rfl
@[simp] theorem setA_events : (s.setA v).events = s.events := rfl
@[simp] theorem setA_extReads : (s.setA v).extReads = s.extReads := rfl
@[simp] theorem setA_tickCycles : (s.setA v).tickCycles = s.tickCycles := rfl
@[simp] theorem setA_params : (s.setA v).params = s.params := rfl
end

section
variable (v : Byte) (s : State)
@[simp] theorem setX_a : (s.setX v).a = s.a := rfl
@[simp] theorem setX_x : (s.setX v).x = v := rfl
@[simp] theorem setX_y : (s.setX v).y = s.y := rfl
@[simp] theorem setX_sp : (s.setX v).sp = s.sp := rfl
@[simp] theorem setX_pc : (s.setX v).pc = s.pc := rfl
@[simp] theorem setX_p : (s.setX v).p = s.p := rfl
@[simp] theorem setX_jammed : (s.setX v).jammed = s.jammed := rfl
@[simp] theorem setX_extra : (s.setX v).extra = s.extra := rfl
@[simp] theorem setX_ram : (s.setX v).ram = s.ram := rfl
@[simp] theorem setX_cart : (s.setX v).cart = s.cart := rfl
@[simp] theorem setX_events : (s.setX v).events = s.events := rfl
@[simp] theorem setX_extReads : (s.setX v).extReads = s.extReads := rfl
@[simp] theorem setX_tickCycles : (s.setX v).tickCycles = s.tickCycles := rfl
@[simp] theorem setX_params : (s.setX v).params = s.params := rfl
end

section
variable (v : Byte) (s : State)
@[simp] theorem setY_a : (s.setY v).a = s.a := rfl
@[simp] theorem setY_x : (s.setY v).x = s.x := rfl
@[simp] theorem setY_y : (s.setY v).y = v := rfl
@[simp] theorem setY_sp : (s.setY v).sp = s.sp := rfl
@[simp] theorem setY_pc : (s.setY v).pc = s.pc := rfl
@[simp] theorem setY_p : (s.setY v).p = s.p := rfl
@[simp] theorem setY_jammed : (s.setY v).jammed = s.jammed := rfl
@[simp] theorem setY_extra : (s.setY v).extra = s.extra := rfl
@[simp] theorem setY_ram : (s.setY v).ram = s.ram := rfl
@[simp] theorem setY_cart : (s.setY v).cart = s.cart := rfl
@[simp] theorem setY_events : (s.setY v).events = s.events := rfl
@[simp] theorem setY_extReads : (s.setY v).extReads = s.extReads := rfl
@[simp] theorem setY_tickCycles : (s.setY v).tickCycles = s.tickCycles := rfl
@[simp] theorem setY_params : (s.setY v).params = s.params := rfl
end

section
variable (v : Byte) (s : State)
@[simp] theorem setSp_a : (s.setSp v).a = s.a := rfl
@[simp] theorem setSp_x : (s.setSp v).x = s.x := rfl
@[simp] theorem setSp_y : (s.setSp v).y = s.y := rfl
@[simp] theorem setSp_sp : (s.setSp v).sp = v := rfl
@[simp] theorem setSp_pc : (s.setSp v).pc = s.pc := rfl
@[simp] theorem setSp_p : (s.setSp v).p = s.p := rfl
@[simp] theorem setSp_jammed : (s.setSp v).jammed = s.jammed := rfl
@[simp] theorem setSp_extra : (s.setSp v).extra = s.extra := rfl
@[simp] theorem setSp_ram : (s.setSp v).ram = s.ram := rfl
@[simp] theorem setSp_cart : (s.setSp v).cart = s.cart := rfl
@[simp] theorem setSp_events : (s.setSp v).events = s.events := rfl
@[simp] theorem setSp_extReads : (s.setSp v).extReads = s.extReads := rfl
@[simp] theorem setSp_tickCycles : (s.setSp v).tickCycles = s.tickCycles := rfl
@[simp] theorem setSp_params : (s.setSp v).params = s.params := rfl
end

section
variable (v : Addr) (s : State)
@[simp] theorem setPc_a : (s.setPc v).a = s.a := rfl
@[simp] theorem setPc_x : (s.setPc v).x = s.x := rfl
@[simp] theorem setPc_y : (s.setPc v).y = s.y := rfl
@[simp] theorem setPc_sp : (s.setPc v).sp = s.sp := rfl
@[simp] theorem setPc_pc : (s.setPc v).pc = v := rfl
@[simp] theorem setPc_p : (s.setPc v).p = s.p := rfl
@[simp] theorem setPc_jammed : (s.setPc v).jammed = s.jammed := rfl
@[simp] theorem setPc_extra : (s.setPc v).extra = s.extra := rfl
@[simp] theorem setPc_ram : (s.setPc v).ram = s.ram := rfl
@[simp] theorem setPc_cart : (s.setPc v).cart = s.cart := rfl
@[simp] theorem setPc_events : (s.setPc v).events = s.events := rfl
@[simp] theorem setPc_extReads : (s.setPc v).extReads = s.extReads := rfl
@[simp] theorem setPc_tickCycles : (s.setPc v).tickCycles = s.tickCycles := rfl
@[simp] theorem setPc_params : (s.setPc v).params = s.params := rfl
end

section
variable (v : Status) (s : State)
@[simp] theorem setP_a : (s.setP v).a = s.a := rfl
@[simp] theorem setP_x : (s.setP v).x = s.x := rfl
@[simp] theorem setP_y : (s.setP v).y = s.y := rfl
@[simp] theorem setP_sp : (s.setP v).sp = s.sp := rfl
@[simp] theorem setP_pc : (s.setP v).pc = s.pc := rfl
@[simp] theorem setP_p : (s.setP v).p = v := rfl
@[simp] theorem setP_jammed : (s.setP v).jammed = s.jammed := rfl
@[simp] theorem setP_extra : (s.setP v).extra = s.extra := rfl
@[simp] theorem setP_ram : (s.setP v).ram = s.ram := rfl
@[simp] theorem setP_cart : (s.setP v).cart = s.cart := rfl
@[simp] theorem setP_events : (s.setP v).events = s.events := rfl
@[simp] theorem setP_extReads : (s.setP v).extReads = s.extReads := rfl
@[simp] theorem setP_tickCycles : (s.setP v).tickCycles = s.tickCycles := rfl
@[simp] theorem setP_params : (s.setP v).params = s.params := rfl
end

section
variable (v : Bool) (s : State)
@[simp] theorem setJammed_a : (s.setJammed v).a = s.a := rfl
@[simp] theorem setJammed_x : (s.setJammed v).x = s.x := rfl
@[simp] theorem setJammed_y : (s.setJammed v).y = s.y := rfl
@[simp] theorem setJammed_sp : (s.setJammed v).sp = s.sp := rfl
@[simp] theorem setJammed_pc : (s.setJammed v).pc = s.pc := rfl
@[simp] theorem setJammed_p : (s.setJammed v).p = s.p := rfl
@[simp] theorem setJammed_jammed : (s.setJammed v).jammed = v := rfl
@[simp] theorem setJammed_extra : (s.setJammed v).extra = s.extra := rfl
@[simp] theorem setJammed_ram : (s.setJammed v).ram = s.ram := rfl
@[simp] theorem setJammed_cart : (s.setJammed v).cart = s.cart := rfl
@[simp] theorem setJammed_events : (s.setJammed v).events = s.events := rfl
@[simp] theorem setJammed_extReads : (s.setJammed v).extReads = s.extReads := rfl
@[simp] theorem setJammed_tickCycles : (s.setJammed v).tickCycles = s.tickCycles := rfl
@[simp] theorem setJammed_params : (s.setJammed v).params = s.params := rfl
end

section
variable (v : Nat) (s : State)
@[simp] theorem setExtra_a : (s.setExtra v).a = s.a := rfl
@[simp] theorem setExtra_x : (s.setExtra v).x = s.x := rfl
@[simp] theorem setExtra_y : (s.setExtra v).y = s.y := rfl
@[simp] theorem setExtra_sp : (s.setExtra v).sp = s.sp := rfl
@[simp] theorem setExtra_pc : (s.setExtra v).pc = s.pc := rfl
@[simp] theorem setExtra_p : (s.setExtra v).p = s.p := rfl
@[simp] theorem setExtra_jammed : (s.setExtra v).jammed = s.jammed := rfl
@[simp] theorem setExtra_extra : (s.setExtra v).extra = v := rfl
@[simp] theorem setExtra_ram : (s.setExtra v).ram = s.ram := rfl
@[simp] theorem setExtra_cart : (s.setExtra v).cart = s.cart := rfl
@[simp] theorem setExtra_events : (s.setExtra v).events = s.events := rfl
@[simp] theorem setExtra_extReads : (s.setExtra v).extReads = s.extReads := rfl
@[simp] theorem setExtra_tickCycles : (s.setExtra v).tickCycles = s.tickCycles := rfl
@[simp] theorem setExtra_params : (s.setExtra v).params = s.params := rfl
end

section
variable (v : Memory) (s : State)
@[simp] theorem setRam_a : (s.setRam v).a = s.a := rfl
@[simp] theorem setRam_x : (s.setRam v).x = s.x := rfl
@[simp] theorem setRam_y : (s.setRam v).y = s.y := rfl
@[simp] theorem setRam_sp : (s.setRam v).sp = s.sp := rfl
@[simp] theorem setRam_pc : (s.setRam v).pc = s.pc := rfl
@[simp] theorem setRam_p : (s.setRam v).p = s.p := rfl
@[simp] theorem setRam_jammed : (s.setRam v).jammed = s.jammed := rfl
@[simp] theorem setRam_extra : (s.setRam v).extra = s.extra := rfl
@[simp] theorem setRam_ram : (s.setRam v).ram = v := rfl
@[simp] theorem setRam_cart : (s.setRam v).cart = s.cart := rfl
@[simp] theorem setRam_events : (s.setRam v).events = s.events := rfl
@[simp] theorem setRam_extReads : (s.setRam v).extReads = s.extReads := rfl
@[simp] theorem setRam_tickCycles : (s.setRam v).tickCycles = s.tickCycles := rfl
@[simp] theorem setRam_params : (s.setRam v).params = s.params := rfl
end

section
variable (v : List BusEvent) (s : State)
@[simp] theorem setEvents_a : (s.setEvents v).a = s.a := rfl
@[simp] theorem setEvents_x : (s.setEvents v).x = s.x := rfl
@[simp] theorem setEvents_y : (s.setEvents v).y = s.y := rfl
@[simp] theorem setEvents_sp : (s.setEvents v).sp = s.sp := rfl
@[simp] theorem setEvents_pc : (s.setEvents v).pc = s.pc := rfl
@[simp] theorem setEvents_p : (s.setEvents v).p = s.p := rfl
@[simp] theorem setEvents_jammed : (s.setEvents v).jammed = s.jammed := rfl
@[simp] theorem setEvents_extra : (s.setEvents v).extra = s.extra := rfl
@[simp] theorem setEvents_ram : (s.setEvents v).ram = s.ram := rfl
@[simp] theorem setEvents_cart : (s.setEvents v).cart = s.cart := rfl
@[simp] theorem setEvents_events : (s.setEvents v).events = v := rfl
@[simp] theorem setEvents_extReads : (s.setEvents v).extReads = s.extReads := rfl
@[simp] theorem setEvents_tickCycles : (s.setEvents v).tickCycles = s.tickCycles := rfl
@[simp] theorem setEvents_params : (s.setEvents v).params = s.params := rfl
end

section
variable (v : Nat) (s : State)
@[simp] theorem setExtReads_a : (s.setExtReads v).a = s.a := rfl
@[simp] theorem setExtReads_x : (s.setExtReads v).x = s.x := rfl
@[simp] theorem setExtReads_y : (s.setExtReads v).y = s.y := rfl
@[simp] theorem setExtReads_sp : (s.setExtReads v).sp = s.sp := rfl
@[simp] theorem setExtReads_pc : (s.setExtReads v).pc = s.pc := rfl
@[simp] theorem setExtReads_p : (s.setExtReads v).p = s.p := rfl
@[simp] theorem setExtReads_jammed : (s.setExtReads v).jammed = s.jammed := rfl
@[simp] theorem setExtReads_extra : (s.setExtReads v).extra = s.extra := rfl
@[simp] theorem setExtReads_ram : (s.setExtReads v).ram = s.ram := rfl
@[simp] theorem setExtReads_cart : (s.setExtReads v).cart = s.cart := rfl
@[simp] theorem setExtReads_events : (s.setExtReads v).events = s.events := rfl
@[simp] theorem setExtReads_extReads : (s.setExtReads v).extReads = v := rfl
@[simp] theorem setExtReads_tickCycles : (s.setExtReads v).tickCycles = s.tickCycles := rfl
@[simp] theorem setExtReads_params : (s.setExtReads v).params = s.params := rfl
end

section
variable (v : Nat) (s : State)
@[simp] theorem setTickCycles_a : (s.setTickCycles v).a = s.a := rfl
@[simp] theorem setTickCycles_x : (s.setTickCycles v).x = s.x := rfl
@[simp] theorem setTickCycles_y : (s.setTickCycles v).y = s.y := rfl
@[simp] theorem setTickCycles_sp : (s.setTickCycles v).sp = s.sp := rfl
@[simp] theorem setTickCycles_pc : (s.setTickCycles v).pc = s.pc := rfl
@[simp] theorem setTickCycles_p : (s.setTickCycles v).p = s.p := rfl
@[simp] theorem setTickCycles_jammed : (s.setTickCycles v).jammed = s.jammed := rfl
@[simp] theorem setTickCycles_extra : (s.setTickCycles v).extra = s.extra := rfl
@[simp] theorem setTickCycles_ram : (s.setTickCycles v).ram = s.ram := rfl
@[simp] theorem setTickCycles_cart : (s.setTickCycles v).cart = s.cart := rfl
@[simp] theorem setTickCycles_events : (s.setTickCycles v).events = s.events := rfl
@[simp] theorem setTickCycles_extReads : (s.setTickCycles v).extReads = s.extReads := rfl
@[simp] theorem setTickCycles_tickCycles : (s.setTickCycles v).tickCycles = v := rfl
@[simp] theorem setTickCycles_params : (s.setTickCycles v).params = s.params := rfl
end

section
variable (v : Byte) (s : State)
@[simp] theorem setNZ_a : (s.setNZ v).a = s.a := rfl
@[simp] theorem setNZ_x : (s.setNZ v).x = s.x := rfl
@[simp] theorem setNZ_y : (s.setNZ v).y = s.y := rfl
@[simp] theorem setNZ_sp : (s.setNZ v).sp = s.sp := rfl
@[simp] theorem setNZ_pc : (s.setNZ v).pc = s.pc := rfl
@[simp] theorem setNZ_p : (s.setNZ v).p = { s.p with z := v == 0, n := bit v 7 } := rfl
@[simp] theorem setNZ_jammed : (s.setNZ v).jammed = s.jammed := rfl
@[simp] theorem setNZ_extra : (s.setNZ v).extra = s.extra := rfl
@[simp] theorem setNZ_ram : (s.setNZ v).ram = s.ram := rfl
@[simp] theorem setNZ_cart : (s.setNZ v).cart = s.cart := rfl
@[simp] theorem setNZ_events : (s.setNZ v).events = s.events := rfl
@[simp] theorem setNZ_extReads : (s.setNZ v).extReads = s.extReads := rfl
@[simp] theorem setNZ_tickCycles : (s.setNZ v).tickCycles = s.tickCycles := rfl
@[simp] theorem setNZ_params : (s.setNZ v).params = s.params := rfl
end

section
variable (v : Bool) (s : State)
@[simp] theorem setC_a : (s.setC v).a = s.a := rfl
@[simp] theorem setC_x : (s.setC v).x = s.x := rfl
@[simp] theorem setC_y : (s.setC v).y = s.y := rfl
@[simp] theorem setC_sp : (s.setC v).sp = s.sp := rfl
@[simp] theorem setC_pc : (s.setC v).pc = s.pc := rfl
@[simp] theorem setC_p : (s.setC v).p = { s.p with c := v } := rfl
@[simp] theorem setC_jammed : (s.setC v).jammed = s.jammed := rfl
@[simp] theorem setC_extra : (s.setC v).extra = s.extra := rfl
@[simp] theorem setC_ram : (s.setC v).ram = s.ram := rfl
@[simp] theorem setC_cart : (s.setC v).cart = s.cart := rfl
@[simp] theorem setC_events : (s.setC v).events = s.events := rfl
@[simp] theorem setC_extReads : (s.setC v).extReads = s.extReads := rfl
@[simp] theorem setC_tickCycles : (s.setC v).tickCycles = s.tickCycles := rfl
@[simp] theorem setC_params : (s.setC v).params = s.params := rfl
end

section
variable (v : Bool) (s : State)
@[simp] theorem setI_a : (s.setI v).a = s.a := rfl
@[simp] theorem setI_x : (s.setI v).x = s.x := rfl
@[simp] theorem setI_y : (s.setI v).y = s.y := rfl
@[simp] theorem setI_sp : (s.setI v).sp = s.sp := rfl
@[simp] theorem setI_pc : (s.setI v).pc = s.pc := rfl
@[simp] theorem setI_p : (s.setI v).p = { s.p with i := v } := rfl
@[simp] theorem setI_jammed : (s.setI v).jammed = s.jammed := rfl
@[simp] theorem setI_extra : (s.setI v).extra = s.extra := rfl
@[simp] theorem setI_ram : (s.setI v).ram = s.ram := rfl
@[simp] theorem setI_cart : (s.setI v).cart = s.cart := rfl
@[simp] theorem setI_events : (s.setI v).events = s.events := rfl
@[simp] theorem setI_extReads : (s.setI v).extReads = s.extReads := rfl
@[simp] theorem setI_tickCycles : (s.setI v).tickCycles = s.tickCycles := rfl
@[simp] theorem setI_params : (s.setI v).params = s.params := rfl
end

section
variable (v : Bool) (s : State)
@[simp] theorem setD_a : (s.setD v).a = s.a := rfl
@[simp] theorem setD_x : (s.setD v).x = s.x := rfl
@[simp] theorem setD_y : (s.setD v).y = s.y := rfl
@[simp] theorem setD_sp : (s.setD v).sp = s.sp := rfl
@[simp] theorem setD_pc : (s.setD v).pc = s.pc := rfl
@[simp] theorem setD_p : (s.setD v).p = { s.p with d := v } := rfl
@[simp] theorem setD_jammed : (s.setD v).jammed = s.jammed := rfl
@[simp] theorem setD_extra : (s.setD v).extra = s.extra := rfl
@[simp] theorem setD_ram : (s.setD v).ram = s.ram := rfl
@[simp] theorem setD_cart : (s.setD v).cart = s.cart := rfl
@[simp] theorem setD_events : (s.setD v).events = s.events := rfl
@[simp] theorem setD_extReads : (s.setD v).extReads = s.extReads := rfl
@[simp] theorem setD_tickCycles : (s.setD v).tickCycles = s.tickCycles := rfl
@[simp] theorem setD_params : (s.setD v).params = s.params := rfl
end

section
variable (v : Bool) (s : State)
@[simp] theorem setV_a : (s.setV v).a = s.a := rfl
@[simp] theorem setV_x : (s.setV v).x = s.x := rfl
@[simp] theorem setV_y : (s.setV v).y = s.y := rfl
@[simp] theorem setV_sp : (s.setV v).sp = s.sp := rfl
@[simp] theorem setV_pc : (s.setV v).pc = s.pc := rfl
@[simp] theorem setV_p : (s.setV v).p = { s.p with v := v } := rfl
@[simp] theorem setV_jammed : (s.setV v).jammed = s.jammed := rfl
@[simp] theorem setV_extra : (s.setV v).extra = s.extra := rfl
@[simp] theorem setV_ram : (s.setV v).ram = s.ram := rfl
@[simp] theorem setV_cart : (s.setV v).cart = s.cart := rfl
@[simp] theorem setV_events : (s.setV v).events = s.events := rfl
@[simp] theorem setV_extReads : (s.setV v).extReads = s.extReads := rfl
@[simp] theorem setV_tickCycles : (s.setV v).tickCycles = s.tickCycles := rfl
@[simp] theorem setV_params : (s.setV v).params = s.params := rfl
end

/-- Two states with the same fields are the same. -/
theorem eq_of_fields {s t : State} (ha : s.a = t.a) (hx : s.x = t.x) (hy : s.y = t.y)
    (hsp : s.sp = t.sp) (hpc : s.pc = t.pc) (hp : s.p = t.p) (hj : s.jammed = t.jammed)
    (he : s.extra = t.extra) (hr : s.ram = t.ram) (hc : s.cart = t.cart)
    (hev : s.events = t.events) (hn : s.extReads = t.extReads)
    (ht : s.tickCycles = t.tickCycles) (hps : s.params = t.params) : s = t := by
  cases s; cases t; simp_all

end Sys2Proof.Machine.State
end

