-- ==== Sys2Proof/Laws/Words.lean ====
section
/-! SUPPORT. The byte and word helpers of Decode.lean (00_scope R8). -/

namespace Sys2Proof

/-- `w16(h, l) = h*256 + l`, with no reduction. -/
theorem toNat_w16 (h l : Byte) : (w16 h l).toNat = h.toNat * 256 + l.toNat := by
  simp only [w16, BitVec.toNat_ofNat]
  have := h.isLt
  have := l.isLt
  omega

theorem toNat_lo8 (w : Addr) : (lo8 w).toNat = w.toNat % 256 := by
  simp [lo8]

theorem toNat_hi8 (w : Addr) : (hi8 w).toNat = w.toNat / 256 := by
  simp only [hi8, BitVec.extractLsb'_toNat, Nat.shiftRight_eq_div_pow]
  have := w.isLt
  omega

@[simp] theorem lo8_w16 (h l : Byte) : lo8 (w16 h l) = l := by
  apply BitVec.eq_of_toNat_eq
  have := l.isLt
  rw [toNat_lo8, toNat_w16]
  omega

@[simp] theorem hi8_w16 (h l : Byte) : hi8 (w16 h l) = h := by
  apply BitVec.eq_of_toNat_eq
  have := l.isLt
  rw [toNat_hi8, toNat_w16]
  omega

/-- The two bytes of a word make the word. -/
@[simp] theorem w16_hi8_lo8 (w : Addr) : w16 (hi8 w) (lo8 w) = w := by
  apply BitVec.eq_of_toNat_eq
  rw [toNat_w16, toNat_hi8, toNat_lo8]
  omega

end Sys2Proof
end

