-- ==== Sys2Proof/Laws/Bus.lean ====
section
/-! SUPPORT. What the shared operations can change: a bus read only the history and its counter, a bus write only RAM and the
history, a push also SP, a pull only SP and the history (20_memory R64 to R92). -/

namespace Sys2Proof.Machine

section
variable (a : Addr) (v : Byte) (port : ExtPort) (e : BusEvent) (s : State) (o : Operand) (r : Resolved)

@[simp] theorem record_a : (record e s).a = s.a := rfl
@[simp] theorem record_x : (record e s).x = s.x := rfl
@[simp] theorem record_y : (record e s).y = s.y := rfl
@[simp] theorem record_sp : (record e s).sp = s.sp := rfl
@[simp] theorem record_pc : (record e s).pc = s.pc := rfl
@[simp] theorem record_p : (record e s).p = s.p := rfl
@[simp] theorem record_jammed : (record e s).jammed = s.jammed := rfl
@[simp] theorem record_extra : (record e s).extra = s.extra := rfl
@[simp] theorem record_ram : (record e s).ram = s.ram := rfl
@[simp] theorem record_cart : (record e s).cart = s.cart := rfl
@[simp] theorem record_tickCycles : (record e s).tickCycles = s.tickCycles := rfl
@[simp] theorem record_params : (record e s).params = s.params := rfl
@[simp] theorem record_events : (record e s).events = s.events ++ [e] := rfl
@[simp] theorem record_extReads : (record e s).extReads = s.extReads := rfl

@[simp] theorem extRead_a : (extRead port s).2.a = s.a := rfl
@[simp] theorem extRead_x : (extRead port s).2.x = s.x := rfl
@[simp] theorem extRead_y : (extRead port s).2.y = s.y := rfl
@[simp] theorem extRead_sp : (extRead port s).2.sp = s.sp := rfl
@[simp] theorem extRead_pc : (extRead port s).2.pc = s.pc := rfl
@[simp] theorem extRead_p : (extRead port s).2.p = s.p := rfl
@[simp] theorem extRead_jammed : (extRead port s).2.jammed = s.jammed := rfl
@[simp] theorem extRead_extra : (extRead port s).2.extra = s.extra := rfl
@[simp] theorem extRead_ram : (extRead port s).2.ram = s.ram := rfl
@[simp] theorem extRead_cart : (extRead port s).2.cart = s.cart := rfl
@[simp] theorem extRead_tickCycles : (extRead port s).2.tickCycles = s.tickCycles := rfl
@[simp] theorem extRead_params : (extRead port s).2.params = s.params := rfl

@[simp] theorem memRead_a : (memRead a s).2.a = s.a := by
  unfold memRead; cases region a <;> rfl
@[simp] theorem memRead_x : (memRead a s).2.x = s.x := by
  unfold memRead; cases region a <;> rfl
@[simp] theorem memRead_y : (memRead a s).2.y = s.y := by
  unfold memRead; cases region a <;> rfl
@[simp] theorem memRead_sp : (memRead a s).2.sp = s.sp := by
  unfold memRead; cases region a <;> rfl
@[simp] theorem memRead_pc : (memRead a s).2.pc = s.pc := by
  unfold memRead; cases region a <;> rfl
@[simp] theorem memRead_p : (memRead a s).2.p = s.p := by
  unfold memRead; cases region a <;> rfl
@[simp] theorem memRead_jammed : (memRead a s).2.jammed = s.jammed := by
  unfold memRead; cases region a <;> rfl
@[simp] theorem memRead_extra : (memRead a s).2.extra = s.extra := by
  unfold memRead; cases region a <;> rfl
@[simp] theorem memRead_ram : (memRead a s).2.ram = s.ram := by
  unfold memRead; cases region a <;> rfl
@[simp] theorem memRead_cart : (memRead a s).2.cart = s.cart := by
  unfold memRead; cases region a <;> rfl
@[simp] theorem memRead_tickCycles : (memRead a s).2.tickCycles = s.tickCycles := by
  unfold memRead; cases region a <;> rfl
@[simp] theorem memRead_params : (memRead a s).2.params = s.params := by
  unfold memRead; cases region a <;> rfl

@[simp] theorem read16_a : (read16 a s).2.a = s.a := by simp [read16]
@[simp] theorem read16_x : (read16 a s).2.x = s.x := by simp [read16]
@[simp] theorem read16_y : (read16 a s).2.y = s.y := by simp [read16]
@[simp] theorem read16_sp : (read16 a s).2.sp = s.sp := by simp [read16]
@[simp] theorem read16_pc : (read16 a s).2.pc = s.pc := by simp [read16]
@[simp] theorem read16_p : (read16 a s).2.p = s.p := by simp [read16]
@[simp] theorem read16_jammed : (read16 a s).2.jammed = s.jammed := by simp [read16]
@[simp] theorem read16_extra : (read16 a s).2.extra = s.extra := by simp [read16]
@[simp] theorem read16_ram : (read16 a s).2.ram = s.ram := by simp [read16]
@[simp] theorem read16_cart : (read16 a s).2.cart = s.cart := by simp [read16]
@[simp] theorem read16_tickCycles : (read16 a s).2.tickCycles = s.tickCycles := by simp [read16]
@[simp] theorem read16_params : (read16 a s).2.params = s.params := by simp [read16]

@[simp] theorem readPointer_a : (readPointer a s).2.a = s.a := by simp [readPointer]
@[simp] theorem readPointer_x : (readPointer a s).2.x = s.x := by simp [readPointer]
@[simp] theorem readPointer_y : (readPointer a s).2.y = s.y := by simp [readPointer]
@[simp] theorem readPointer_sp : (readPointer a s).2.sp = s.sp := by simp [readPointer]
@[simp] theorem readPointer_pc : (readPointer a s).2.pc = s.pc := by simp [readPointer]
@[simp] theorem readPointer_p : (readPointer a s).2.p = s.p := by simp [readPointer]
@[simp] theorem readPointer_jammed : (readPointer a s).2.jammed = s.jammed := by simp [readPointer]
@[simp] theorem readPointer_extra : (readPointer a s).2.extra = s.extra := by simp [readPointer]
@[simp] theorem readPointer_ram : (readPointer a s).2.ram = s.ram := by simp [readPointer]
@[simp] theorem readPointer_cart : (readPointer a s).2.cart = s.cart := by simp [readPointer]
@[simp] theorem readPointer_tickCycles : (readPointer a s).2.tickCycles = s.tickCycles := by simp [readPointer]
@[simp] theorem readPointer_params : (readPointer a s).2.params = s.params := by simp [readPointer]

@[simp] theorem resolve_a : (resolve o s).2.a = s.a := by cases o <;> simp [resolve]
@[simp] theorem resolve_x : (resolve o s).2.x = s.x := by cases o <;> simp [resolve]
@[simp] theorem resolve_y : (resolve o s).2.y = s.y := by cases o <;> simp [resolve]
@[simp] theorem resolve_sp : (resolve o s).2.sp = s.sp := by cases o <;> simp [resolve]
@[simp] theorem resolve_pc : (resolve o s).2.pc = s.pc := by cases o <;> simp [resolve]
@[simp] theorem resolve_p : (resolve o s).2.p = s.p := by cases o <;> simp [resolve]
@[simp] theorem resolve_jammed : (resolve o s).2.jammed = s.jammed := by cases o <;> simp [resolve]
@[simp] theorem resolve_extra : (resolve o s).2.extra = s.extra := by cases o <;> simp [resolve]
@[simp] theorem resolve_ram : (resolve o s).2.ram = s.ram := by cases o <;> simp [resolve]
@[simp] theorem resolve_cart : (resolve o s).2.cart = s.cart := by cases o <;> simp [resolve]
@[simp] theorem resolve_tickCycles : (resolve o s).2.tickCycles = s.tickCycles := by cases o <;> simp [resolve]
@[simp] theorem resolve_params : (resolve o s).2.params = s.params := by cases o <;> simp [resolve]

@[simp] theorem operandByte_a : (operandByte o r s).2.a = s.a := by
  cases o <;> simp [operandByte]
@[simp] theorem operandByte_x : (operandByte o r s).2.x = s.x := by
  cases o <;> simp [operandByte]
@[simp] theorem operandByte_y : (operandByte o r s).2.y = s.y := by
  cases o <;> simp [operandByte]
@[simp] theorem operandByte_sp : (operandByte o r s).2.sp = s.sp := by
  cases o <;> simp [operandByte]
@[simp] theorem operandByte_pc : (operandByte o r s).2.pc = s.pc := by
  cases o <;> simp [operandByte]
@[simp] theorem operandByte_p : (operandByte o r s).2.p = s.p := by
  cases o <;> simp [operandByte]
@[simp] theorem operandByte_jammed : (operandByte o r s).2.jammed = s.jammed := by
  cases o <;> simp [operandByte]
@[simp] theorem operandByte_extra : (operandByte o r s).2.extra = s.extra := by
  cases o <;> simp [operandByte]
@[simp] theorem operandByte_ram : (operandByte o r s).2.ram = s.ram := by
  cases o <;> simp [operandByte]
@[simp] theorem operandByte_cart : (operandByte o r s).2.cart = s.cart := by
  cases o <;> simp [operandByte]
@[simp] theorem operandByte_tickCycles : (operandByte o r s).2.tickCycles = s.tickCycles := by
  cases o <;> simp [operandByte]
@[simp] theorem operandByte_params : (operandByte o r s).2.params = s.params := by
  cases o <;> simp [operandByte]

@[simp] theorem pull_a : (pull s).2.a = s.a := by simp [pull]
@[simp] theorem pull_x : (pull s).2.x = s.x := by simp [pull]
@[simp] theorem pull_y : (pull s).2.y = s.y := by simp [pull]
@[simp] theorem pull_pc : (pull s).2.pc = s.pc := by simp [pull]
@[simp] theorem pull_p : (pull s).2.p = s.p := by simp [pull]
@[simp] theorem pull_jammed : (pull s).2.jammed = s.jammed := by simp [pull]
@[simp] theorem pull_extra : (pull s).2.extra = s.extra := by simp [pull]
@[simp] theorem pull_ram : (pull s).2.ram = s.ram := by simp [pull]
@[simp] theorem pull_cart : (pull s).2.cart = s.cart := by simp [pull]
@[simp] theorem pull_tickCycles : (pull s).2.tickCycles = s.tickCycles := by simp [pull]
@[simp] theorem pull_params : (pull s).2.params = s.params := by simp [pull]
@[simp] theorem pull_sp : (pull s).2.sp = s.sp + 1 := by simp [pull]

@[simp] theorem fetchByte_a : (fetchByte s).2.a = s.a := by simp [fetchByte]
@[simp] theorem fetchByte_x : (fetchByte s).2.x = s.x := by simp [fetchByte]
@[simp] theorem fetchByte_y : (fetchByte s).2.y = s.y := by simp [fetchByte]
@[simp] theorem fetchByte_sp : (fetchByte s).2.sp = s.sp := by simp [fetchByte]
@[simp] theorem fetchByte_p : (fetchByte s).2.p = s.p := by simp [fetchByte]
@[simp] theorem fetchByte_jammed : (fetchByte s).2.jammed = s.jammed := by simp [fetchByte]
@[simp] theorem fetchByte_extra : (fetchByte s).2.extra = s.extra := by simp [fetchByte]
@[simp] theorem fetchByte_ram : (fetchByte s).2.ram = s.ram := by simp [fetchByte]
@[simp] theorem fetchByte_cart : (fetchByte s).2.cart = s.cart := by simp [fetchByte]
@[simp] theorem fetchByte_tickCycles : (fetchByte s).2.tickCycles = s.tickCycles := by simp [fetchByte]
@[simp] theorem fetchByte_params : (fetchByte s).2.params = s.params := by simp [fetchByte]
@[simp] theorem fetchByte_pc : (fetchByte s).2.pc = s.pc + 1 := rfl

@[simp] theorem memWrite_a : (memWrite a v s).a = s.a := by
  unfold memWrite; split <;> (try split) <;> rfl
@[simp] theorem memWrite_x : (memWrite a v s).x = s.x := by
  unfold memWrite; split <;> (try split) <;> rfl
@[simp] theorem memWrite_y : (memWrite a v s).y = s.y := by
  unfold memWrite; split <;> (try split) <;> rfl
@[simp] theorem memWrite_sp : (memWrite a v s).sp = s.sp := by
  unfold memWrite; split <;> (try split) <;> rfl
@[simp] theorem memWrite_pc : (memWrite a v s).pc = s.pc := by
  unfold memWrite; split <;> (try split) <;> rfl
@[simp] theorem memWrite_p : (memWrite a v s).p = s.p := by
  unfold memWrite; split <;> (try split) <;> rfl
@[simp] theorem memWrite_jammed : (memWrite a v s).jammed = s.jammed := by
  unfold memWrite; split <;> (try split) <;> rfl
@[simp] theorem memWrite_extra : (memWrite a v s).extra = s.extra := by
  unfold memWrite; split <;> (try split) <;> rfl
@[simp] theorem memWrite_cart : (memWrite a v s).cart = s.cart := by
  unfold memWrite; split <;> (try split) <;> rfl
@[simp] theorem memWrite_extReads : (memWrite a v s).extReads = s.extReads := by
  unfold memWrite; split <;> (try split) <;> rfl
@[simp] theorem memWrite_tickCycles : (memWrite a v s).tickCycles = s.tickCycles := by
  unfold memWrite; split <;> (try split) <;> rfl
@[simp] theorem memWrite_params : (memWrite a v s).params = s.params := by
  unfold memWrite; split <;> (try split) <;> rfl

@[simp] theorem push_a : (push v s).a = s.a := by simp [push]
@[simp] theorem push_x : (push v s).x = s.x := by simp [push]
@[simp] theorem push_y : (push v s).y = s.y := by simp [push]
@[simp] theorem push_pc : (push v s).pc = s.pc := by simp [push]
@[simp] theorem push_p : (push v s).p = s.p := by simp [push]
@[simp] theorem push_jammed : (push v s).jammed = s.jammed := by simp [push]
@[simp] theorem push_extra : (push v s).extra = s.extra := by simp [push]
@[simp] theorem push_cart : (push v s).cart = s.cart := by simp [push]
@[simp] theorem push_extReads : (push v s).extReads = s.extReads := by simp [push]
@[simp] theorem push_tickCycles : (push v s).tickCycles = s.tickCycles := by simp [push]
@[simp] theorem push_params : (push v s).params = s.params := by simp [push]
@[simp] theorem push_sp : (push v s).sp = s.sp - 1 := rfl

/-- A bus read leaves the state alone, or is one external read (R85, R90). -/
theorem memRead_cases : (memRead a s).2 = s ∨ ∃ port, memRead a s = extRead port s := by
  unfold memRead
  split <;> first | exact .inl rfl | exact .inr ⟨_, rfl⟩

/-- A bus write stores one RAM byte, records one event, or is discarded (R65 to R77). -/
theorem memWrite_cases :
    (∃ i, region a = .ram i ∧ memWrite a v s = s.setRam (s.ram.write i.toNat v)) ∨
      (∃ e, memWrite a v s = record e s) ∨ memWrite a v s = s := by
  unfold memWrite
  split <;> (try split) <;>
    first | exact .inr (.inl ⟨_, rfl⟩) | exact .inr (.inr rfl) | exact .inl ⟨_, ‹_›, rfl⟩

end

/-- `t`'s event history continues that of `s` (R92). -/
def HistoryGrows (s t : State) : Prop := ∃ es, t.events = s.events ++ es

theorem HistoryGrows.refl (s : State) : HistoryGrows s s := ⟨[], by simp⟩

theorem HistoryGrows.trans {s t u : State} (h : HistoryGrows s t) (k : HistoryGrows t u) :
    HistoryGrows s u := by
  obtain ⟨es, he⟩ := h
  obtain ⟨fs, hf⟩ := k
  exact ⟨es ++ fs, by rw [hf, he, List.append_assoc]⟩

/-- Only the history counts, so an update that keeps it keeps the relation. -/
theorem HistoryGrows.of_events_eq {s t u : State} (h : HistoryGrows s t) (e : u.events = t.events) :
    HistoryGrows s u := by
  obtain ⟨es, he⟩ := h
  exact ⟨es, by rw [e, he]⟩

theorem memRead_grows (a : Addr) (s : State) : HistoryGrows s (memRead a s).2 := by
  rcases memRead_cases a s with h | ⟨port, h⟩
  · rw [h]; exact .refl s
  · rw [h]; exact ⟨[_], rfl⟩

theorem memWrite_grows (a : Addr) (v : Byte) (s : State) : HistoryGrows s (memWrite a v s) := by
  rcases memWrite_cases a v s with ⟨i, _, h⟩ | ⟨e, h⟩ | h
  · rw [h]; exact .refl s
  · rw [h]; exact ⟨[e], rfl⟩
  · rw [h]; exact .refl s

theorem push_grows (v : Byte) (s : State) : HistoryGrows s (push v s) := memWrite_grows _ v s

theorem pull_grows (s : State) : HistoryGrows s (pull s).2 := memRead_grows _ _

theorem read16_grows (a : Addr) (s : State) : HistoryGrows s (read16 a s).2 :=
  (memRead_grows a s).trans (memRead_grows _ _)

theorem readPointer_grows (a : Addr) (s : State) : HistoryGrows s (readPointer a s).2 :=
  (memRead_grows a s).trans (memRead_grows _ _)

theorem resolve_grows (o : Operand) (s : State) : HistoryGrows s (resolve o s).2 := by
  cases o <;> first | exact .refl s | exact readPointer_grows _ s

theorem operandByte_grows (o : Operand) (r : Resolved) (s : State) :
    HistoryGrows s (operandByte o r s).2 := by
  cases o <;> first | exact .refl s | exact memRead_grows _ s

/-- A bus write keeps RAM in the canonical form and within its 2048 bytes. -/
theorem memWrite_ram (a : Addr) (v : Byte) (s : State) (hw : s.ram.wf = true)
    (hb : s.ram.below 2048 = true) :
    (memWrite a v s).ram.wf = true ∧ (memWrite a v s).ram.below 2048 = true := by
  rcases memWrite_cases a v s with ⟨i, _, h⟩ | ⟨e, h⟩ | h
  · rw [h]
    exact ⟨Memory.wf_write _ _ v hw, Memory.below_write _ 2048 _ v i.isLt hb⟩
  · rw [h]; exact ⟨hw, hb⟩
  · rw [h]; exact ⟨hw, hb⟩

/-- Every address the bus decodes to RAM reads its own byte back after a write (R65). -/
theorem memRead_memWrite_ram {a b : Addr} {i : BitVec 11} (ha : region a = .ram i)
    (hb : region b = .ram i) (v : Byte) (s : State) (hw : s.ram.wf = true) :
    memRead b (memWrite a v s) = (v, memWrite a v s) := by
  simp [memRead, memWrite, ha, hb, Memory.read_write_same _ _ v hw]

/-- A bus read changes the byte at no address. -/
@[simp] theorem byteAt_memRead (a b : Addr) (s : State) : byteAt (memRead a s).2 b = byteAt s b := by
  simp [byteAt]

/-- A bus write changes the byte at an address only if both are the same RAM byte (R65, R77). -/
theorem byteAt_memWrite_other {a b : Addr} (h : region b ≠ region a) (v : Byte) (s : State) :
    byteAt (memWrite a v s) b = byteAt s b := by
  rcases memWrite_cases a v s with ⟨i, hi, he⟩ | ⟨e, he⟩ | he
  · rw [he]
    unfold byteAt
    split <;> try rfl
    rename_i j hj
    have hij : j.toNat ≠ i.toNat := fun hh => h (by rw [hj, hi, BitVec.eq_of_toNat_eq hh])
    simp [Memory.read_write_other _ _ _ v hij]
  · rw [he]; rfl
  · rw [he]

/-! ### The decode function in numbers (R64). -/

theorem region_ram {a : Addr} (h : a.toNat < 0x2000) : region a = .ram (a.setWidth 11) := by
  unfold region; rw [if_pos h]

theorem region_ppu {a : Addr} (h1 : 0x2000 ≤ a.toNat) (h2 : a.toNat < 0x4000) :
    region a = .ppu (a.setWidth 3) := by
  unfold region; rw [if_neg (by omega), if_pos h2]

/-- From the end of the PPU window on, the decode function has seen the two windows below it. -/
theorem region_above_ppu {a : Addr} (h : 0x4000 ≤ a.toNat) :
    region a = if a.toNat < 0x4014 then .apu a
      else if a.toNat = 0x4014 then .oamDma
      else if a.toNat = 0x4015 then .apu a
      else if a.toNat = 0x4016 then .ctrl0
      else if a.toNat = 0x4017 then .ctrl1
      else if a.toNat < 0x4020 then .openBus else .cartridge a := by
  have hram : ¬ a.toNat < 0x2000 := by omega
  have hppu : ¬ a.toNat < 0x4000 := by omega
  simp only [region, hram, hppu, if_false]

/-- From 0x4018 on only open bus and the cartridge are left. -/
theorem region_above_ports {a : Addr} (h : 0x4018 ≤ a.toNat) :
    region a = if a.toNat < 0x4020 then .openBus else .cartridge a := by
  have hports : ¬ a.toNat < 0x4014 ∧ a.toNat ≠ 0x4014 ∧ a.toNat ≠ 0x4015 ∧ a.toNat ≠ 0x4016 ∧
      a.toNat ≠ 0x4017 := by omega
  simp only [region_above_ppu (by omega : 0x4000 ≤ a.toNat), hports, if_false]

theorem region_apu {a : Addr} (h1 : 0x4000 ≤ a.toNat) (h2 : a.toNat < 0x4014) :
    region a = .apu a := by
  rw [region_above_ppu h1, if_pos h2]

theorem region_openBus {a : Addr} (h1 : 0x4018 ≤ a.toNat) (h2 : a.toNat < 0x4020) :
    region a = .openBus := by
  rw [region_above_ports h1, if_pos h2]

theorem region_cartridge {a : Addr} (h : 0x4020 ≤ a.toNat) : region a = .cartridge a := by
  rw [region_above_ports (by omega), if_neg (by omega)]

/-- The stack page is RAM, one byte for each SP (R33, R81). -/
theorem toNat_stackAddr (sp : Byte) : (stackAddr sp).toNat = 256 + sp.toNat := by
  rw [stackAddr, toNat_w16]; rfl

/-- Where an address holds a byte, a bus read gives that byte and has no effect (R85). -/
theorem memRead_of_byteAt {a : Addr} {b : Byte} {s : State} (h : byteAt s a = some b) :
    memRead a s = (b, s) := by
  unfold byteAt at h
  unfold memRead
  split at h <;> simp_all

/-- The bytes of memory depend on RAM and the cartridge only. -/
theorem byteAt_congr {s t : State} (hr : t.ram = s.ram) (hc : t.cart = s.cart) (a : Addr) :
    byteAt t a = byteAt s a := by
  simp [byteAt, hr, hc]

end Sys2Proof.Machine
end

