-- ==== Sys2Proof/Laws/PerInstr.lean ====
section
/-! SUPPORT. The family `Row`, one lemma per instruction: its opcode byte selects its own row of the decoder and of the
Instruction Table, with its mnemonic and mode (30_encoding R109, R110). -/

namespace Sys2Proof.Laws.Row

/-- The rows the opcode byte of `i` selects are those of `i`. -/
def Statement (i : Instr) : Prop :=
  (form i.opcode).build i.operand.word = i ∧
    (descriptorOf i.opcode).mnemonic = i.mnemonic ∧
    (descriptorOf i.opcode).mode = i.operand.mode

/-- The opcode byte written out, so that each part is a lookup at a known byte. -/
theorem at_opcode {i : Instr} (opc : Byte) (ho : i.opcode = opc)
    (hb : (form opc).build i.operand.word = i)
    (hn : (descriptorOf opc).mnemonic = i.mnemonic)
    (hm : (descriptorOf opc).mode = i.operand.mode) : Statement i := by
  subst ho
  exact ⟨hb, hn, hm⟩

theorem adcImm (v : Byte) : Statement (.adcImm v) :=
  at_opcode 0x69 rfl (congrArg Instr.adcImm (lo8_w16 0 v)) rfl rfl
theorem adcZp (b : Byte) : Statement (.adcZp b) :=
  at_opcode 0x65 rfl (congrArg Instr.adcZp (lo8_w16 0 b)) rfl rfl
theorem adcZpx (b : Byte) : Statement (.adcZpx b) :=
  at_opcode 0x75 rfl (congrArg Instr.adcZpx (lo8_w16 0 b)) rfl rfl
theorem adcAbs (w : Addr) : Statement (.adcAbs w) :=
  at_opcode 0x6D rfl rfl rfl rfl
theorem adcAbsx (w : Addr) : Statement (.adcAbsx w) :=
  at_opcode 0x7D rfl rfl rfl rfl
theorem adcAbsy (w : Addr) : Statement (.adcAbsy w) :=
  at_opcode 0x79 rfl rfl rfl rfl
theorem adcIzx (b : Byte) : Statement (.adcIzx b) :=
  at_opcode 0x61 rfl (congrArg Instr.adcIzx (lo8_w16 0 b)) rfl rfl
theorem adcIzy (b : Byte) : Statement (.adcIzy b) :=
  at_opcode 0x71 rfl (congrArg Instr.adcIzy (lo8_w16 0 b)) rfl rfl
theorem sbcImm (v : Byte) : Statement (.sbcImm v) :=
  at_opcode 0xE9 rfl (congrArg Instr.sbcImm (lo8_w16 0 v)) rfl rfl
theorem sbcZp (b : Byte) : Statement (.sbcZp b) :=
  at_opcode 0xE5 rfl (congrArg Instr.sbcZp (lo8_w16 0 b)) rfl rfl
theorem sbcZpx (b : Byte) : Statement (.sbcZpx b) :=
  at_opcode 0xF5 rfl (congrArg Instr.sbcZpx (lo8_w16 0 b)) rfl rfl
theorem sbcAbs (w : Addr) : Statement (.sbcAbs w) :=
  at_opcode 0xED rfl rfl rfl rfl
theorem sbcAbsx (w : Addr) : Statement (.sbcAbsx w) :=
  at_opcode 0xFD rfl rfl rfl rfl
theorem sbcAbsy (w : Addr) : Statement (.sbcAbsy w) :=
  at_opcode 0xF9 rfl rfl rfl rfl
theorem sbcIzx (b : Byte) : Statement (.sbcIzx b) :=
  at_opcode 0xE1 rfl (congrArg Instr.sbcIzx (lo8_w16 0 b)) rfl rfl
theorem sbcIzy (b : Byte) : Statement (.sbcIzy b) :=
  at_opcode 0xF1 rfl (congrArg Instr.sbcIzy (lo8_w16 0 b)) rfl rfl
theorem andImm (v : Byte) : Statement (.andImm v) :=
  at_opcode 0x29 rfl (congrArg Instr.andImm (lo8_w16 0 v)) rfl rfl
theorem andZp (b : Byte) : Statement (.andZp b) :=
  at_opcode 0x25 rfl (congrArg Instr.andZp (lo8_w16 0 b)) rfl rfl
theorem andZpx (b : Byte) : Statement (.andZpx b) :=
  at_opcode 0x35 rfl (congrArg Instr.andZpx (lo8_w16 0 b)) rfl rfl
theorem andAbs (w : Addr) : Statement (.andAbs w) :=
  at_opcode 0x2D rfl rfl rfl rfl
theorem andAbsx (w : Addr) : Statement (.andAbsx w) :=
  at_opcode 0x3D rfl rfl rfl rfl
theorem andAbsy (w : Addr) : Statement (.andAbsy w) :=
  at_opcode 0x39 rfl rfl rfl rfl
theorem andIzx (b : Byte) : Statement (.andIzx b) :=
  at_opcode 0x21 rfl (congrArg Instr.andIzx (lo8_w16 0 b)) rfl rfl
theorem andIzy (b : Byte) : Statement (.andIzy b) :=
  at_opcode 0x31 rfl (congrArg Instr.andIzy (lo8_w16 0 b)) rfl rfl
theorem oraImm (v : Byte) : Statement (.oraImm v) :=
  at_opcode 0x09 rfl (congrArg Instr.oraImm (lo8_w16 0 v)) rfl rfl
theorem oraZp (b : Byte) : Statement (.oraZp b) :=
  at_opcode 0x05 rfl (congrArg Instr.oraZp (lo8_w16 0 b)) rfl rfl
theorem oraZpx (b : Byte) : Statement (.oraZpx b) :=
  at_opcode 0x15 rfl (congrArg Instr.oraZpx (lo8_w16 0 b)) rfl rfl
theorem oraAbs (w : Addr) : Statement (.oraAbs w) :=
  at_opcode 0x0D rfl rfl rfl rfl
theorem oraAbsx (w : Addr) : Statement (.oraAbsx w) :=
  at_opcode 0x1D rfl rfl rfl rfl
theorem oraAbsy (w : Addr) : Statement (.oraAbsy w) :=
  at_opcode 0x19 rfl rfl rfl rfl
theorem oraIzx (b : Byte) : Statement (.oraIzx b) :=
  at_opcode 0x01 rfl (congrArg Instr.oraIzx (lo8_w16 0 b)) rfl rfl
theorem oraIzy (b : Byte) : Statement (.oraIzy b) :=
  at_opcode 0x11 rfl (congrArg Instr.oraIzy (lo8_w16 0 b)) rfl rfl
theorem eorImm (v : Byte) : Statement (.eorImm v) :=
  at_opcode 0x49 rfl (congrArg Instr.eorImm (lo8_w16 0 v)) rfl rfl
theorem eorZp (b : Byte) : Statement (.eorZp b) :=
  at_opcode 0x45 rfl (congrArg Instr.eorZp (lo8_w16 0 b)) rfl rfl
theorem eorZpx (b : Byte) : Statement (.eorZpx b) :=
  at_opcode 0x55 rfl (congrArg Instr.eorZpx (lo8_w16 0 b)) rfl rfl
theorem eorAbs (w : Addr) : Statement (.eorAbs w) :=
  at_opcode 0x4D rfl rfl rfl rfl
theorem eorAbsx (w : Addr) : Statement (.eorAbsx w) :=
  at_opcode 0x5D rfl rfl rfl rfl
theorem eorAbsy (w : Addr) : Statement (.eorAbsy w) :=
  at_opcode 0x59 rfl rfl rfl rfl
theorem eorIzx (b : Byte) : Statement (.eorIzx b) :=
  at_opcode 0x41 rfl (congrArg Instr.eorIzx (lo8_w16 0 b)) rfl rfl
theorem eorIzy (b : Byte) : Statement (.eorIzy b) :=
  at_opcode 0x51 rfl (congrArg Instr.eorIzy (lo8_w16 0 b)) rfl rfl
theorem bitZp (b : Byte) : Statement (.bitZp b) :=
  at_opcode 0x24 rfl (congrArg Instr.bitZp (lo8_w16 0 b)) rfl rfl
theorem bitAbs (w : Addr) : Statement (.bitAbs w) :=
  at_opcode 0x2C rfl rfl rfl rfl
theorem aslAcc : Statement (.aslAcc) :=
  at_opcode 0x0A rfl rfl rfl rfl
theorem aslZp (b : Byte) : Statement (.aslZp b) :=
  at_opcode 0x06 rfl (congrArg Instr.aslZp (lo8_w16 0 b)) rfl rfl
theorem aslZpx (b : Byte) : Statement (.aslZpx b) :=
  at_opcode 0x16 rfl (congrArg Instr.aslZpx (lo8_w16 0 b)) rfl rfl
theorem aslAbs (w : Addr) : Statement (.aslAbs w) :=
  at_opcode 0x0E rfl rfl rfl rfl
theorem aslAbsx (w : Addr) : Statement (.aslAbsx w) :=
  at_opcode 0x1E rfl rfl rfl rfl
theorem lsrAcc : Statement (.lsrAcc) :=
  at_opcode 0x4A rfl rfl rfl rfl
theorem lsrZp (b : Byte) : Statement (.lsrZp b) :=
  at_opcode 0x46 rfl (congrArg Instr.lsrZp (lo8_w16 0 b)) rfl rfl
theorem lsrZpx (b : Byte) : Statement (.lsrZpx b) :=
  at_opcode 0x56 rfl (congrArg Instr.lsrZpx (lo8_w16 0 b)) rfl rfl
theorem lsrAbs (w : Addr) : Statement (.lsrAbs w) :=
  at_opcode 0x4E rfl rfl rfl rfl
theorem lsrAbsx (w : Addr) : Statement (.lsrAbsx w) :=
  at_opcode 0x5E rfl rfl rfl rfl
theorem rolAcc : Statement (.rolAcc) :=
  at_opcode 0x2A rfl rfl rfl rfl
theorem rolZp (b : Byte) : Statement (.rolZp b) :=
  at_opcode 0x26 rfl (congrArg Instr.rolZp (lo8_w16 0 b)) rfl rfl
theorem rolZpx (b : Byte) : Statement (.rolZpx b) :=
  at_opcode 0x36 rfl (congrArg Instr.rolZpx (lo8_w16 0 b)) rfl rfl
theorem rolAbs (w : Addr) : Statement (.rolAbs w) :=
  at_opcode 0x2E rfl rfl rfl rfl
theorem rolAbsx (w : Addr) : Statement (.rolAbsx w) :=
  at_opcode 0x3E rfl rfl rfl rfl
theorem rorAcc : Statement (.rorAcc) :=
  at_opcode 0x6A rfl rfl rfl rfl
theorem rorZp (b : Byte) : Statement (.rorZp b) :=
  at_opcode 0x66 rfl (congrArg Instr.rorZp (lo8_w16 0 b)) rfl rfl
theorem rorZpx (b : Byte) : Statement (.rorZpx b) :=
  at_opcode 0x76 rfl (congrArg Instr.rorZpx (lo8_w16 0 b)) rfl rfl
theorem rorAbs (w : Addr) : Statement (.rorAbs w) :=
  at_opcode 0x6E rfl rfl rfl rfl
theorem rorAbsx (w : Addr) : Statement (.rorAbsx w) :=
  at_opcode 0x7E rfl rfl rfl rfl
theorem cmpImm (v : Byte) : Statement (.cmpImm v) :=
  at_opcode 0xC9 rfl (congrArg Instr.cmpImm (lo8_w16 0 v)) rfl rfl
theorem cmpZp (b : Byte) : Statement (.cmpZp b) :=
  at_opcode 0xC5 rfl (congrArg Instr.cmpZp (lo8_w16 0 b)) rfl rfl
theorem cmpZpx (b : Byte) : Statement (.cmpZpx b) :=
  at_opcode 0xD5 rfl (congrArg Instr.cmpZpx (lo8_w16 0 b)) rfl rfl
theorem cmpAbs (w : Addr) : Statement (.cmpAbs w) :=
  at_opcode 0xCD rfl rfl rfl rfl
theorem cmpAbsx (w : Addr) : Statement (.cmpAbsx w) :=
  at_opcode 0xDD rfl rfl rfl rfl
theorem cmpAbsy (w : Addr) : Statement (.cmpAbsy w) :=
  at_opcode 0xD9 rfl rfl rfl rfl
theorem cmpIzx (b : Byte) : Statement (.cmpIzx b) :=
  at_opcode 0xC1 rfl (congrArg Instr.cmpIzx (lo8_w16 0 b)) rfl rfl
theorem cmpIzy (b : Byte) : Statement (.cmpIzy b) :=
  at_opcode 0xD1 rfl (congrArg Instr.cmpIzy (lo8_w16 0 b)) rfl rfl
theorem cpxImm (v : Byte) : Statement (.cpxImm v) :=
  at_opcode 0xE0 rfl (congrArg Instr.cpxImm (lo8_w16 0 v)) rfl rfl
theorem cpxZp (b : Byte) : Statement (.cpxZp b) :=
  at_opcode 0xE4 rfl (congrArg Instr.cpxZp (lo8_w16 0 b)) rfl rfl
theorem cpxAbs (w : Addr) : Statement (.cpxAbs w) :=
  at_opcode 0xEC rfl rfl rfl rfl
theorem cpyImm (v : Byte) : Statement (.cpyImm v) :=
  at_opcode 0xC0 rfl (congrArg Instr.cpyImm (lo8_w16 0 v)) rfl rfl
theorem cpyZp (b : Byte) : Statement (.cpyZp b) :=
  at_opcode 0xC4 rfl (congrArg Instr.cpyZp (lo8_w16 0 b)) rfl rfl
theorem cpyAbs (w : Addr) : Statement (.cpyAbs w) :=
  at_opcode 0xCC rfl rfl rfl rfl
theorem incZp (b : Byte) : Statement (.incZp b) :=
  at_opcode 0xE6 rfl (congrArg Instr.incZp (lo8_w16 0 b)) rfl rfl
theorem incZpx (b : Byte) : Statement (.incZpx b) :=
  at_opcode 0xF6 rfl (congrArg Instr.incZpx (lo8_w16 0 b)) rfl rfl
theorem incAbs (w : Addr) : Statement (.incAbs w) :=
  at_opcode 0xEE rfl rfl rfl rfl
theorem incAbsx (w : Addr) : Statement (.incAbsx w) :=
  at_opcode 0xFE rfl rfl rfl rfl
theorem decZp (b : Byte) : Statement (.decZp b) :=
  at_opcode 0xC6 rfl (congrArg Instr.decZp (lo8_w16 0 b)) rfl rfl
theorem decZpx (b : Byte) : Statement (.decZpx b) :=
  at_opcode 0xD6 rfl (congrArg Instr.decZpx (lo8_w16 0 b)) rfl rfl
theorem decAbs (w : Addr) : Statement (.decAbs w) :=
  at_opcode 0xCE rfl rfl rfl rfl
theorem decAbsx (w : Addr) : Statement (.decAbsx w) :=
  at_opcode 0xDE rfl rfl rfl rfl
theorem inx : Statement (.inx) :=
  at_opcode 0xE8 rfl rfl rfl rfl
theorem iny : Statement (.iny) :=
  at_opcode 0xC8 rfl rfl rfl rfl
theorem dex : Statement (.dex) :=
  at_opcode 0xCA rfl rfl rfl rfl
theorem dey : Statement (.dey) :=
  at_opcode 0x88 rfl rfl rfl rfl
theorem bcc (o : Byte) : Statement (.bcc o) :=
  at_opcode 0x90 rfl (congrArg Instr.bcc (lo8_w16 0 o)) rfl rfl
theorem bcs (o : Byte) : Statement (.bcs o) :=
  at_opcode 0xB0 rfl (congrArg Instr.bcs (lo8_w16 0 o)) rfl rfl
theorem beq (o : Byte) : Statement (.beq o) :=
  at_opcode 0xF0 rfl (congrArg Instr.beq (lo8_w16 0 o)) rfl rfl
theorem bne (o : Byte) : Statement (.bne o) :=
  at_opcode 0xD0 rfl (congrArg Instr.bne (lo8_w16 0 o)) rfl rfl
theorem bmi (o : Byte) : Statement (.bmi o) :=
  at_opcode 0x30 rfl (congrArg Instr.bmi (lo8_w16 0 o)) rfl rfl
theorem bpl (o : Byte) : Statement (.bpl o) :=
  at_opcode 0x10 rfl (congrArg Instr.bpl (lo8_w16 0 o)) rfl rfl
theorem bvc (o : Byte) : Statement (.bvc o) :=
  at_opcode 0x50 rfl (congrArg Instr.bvc (lo8_w16 0 o)) rfl rfl
theorem bvs (o : Byte) : Statement (.bvs o) :=
  at_opcode 0x70 rfl (congrArg Instr.bvs (lo8_w16 0 o)) rfl rfl
theorem pha : Statement (.pha) :=
  at_opcode 0x48 rfl rfl rfl rfl
theorem php : Statement (.php) :=
  at_opcode 0x08 rfl rfl rfl rfl
theorem pla : Statement (.pla) :=
  at_opcode 0x68 rfl rfl rfl rfl
theorem plp : Statement (.plp) :=
  at_opcode 0x28 rfl rfl rfl rfl
theorem jsrAbs (w : Addr) : Statement (.jsrAbs w) :=
  at_opcode 0x20 rfl rfl rfl rfl
theorem rts : Statement (.rts) :=
  at_opcode 0x60 rfl rfl rfl rfl
theorem rti : Statement (.rti) :=
  at_opcode 0x40 rfl rfl rfl rfl
theorem brk : Statement (.brk) :=
  at_opcode 0x00 rfl rfl rfl rfl
theorem jmpAbs (w : Addr) : Statement (.jmpAbs w) :=
  at_opcode 0x4C rfl rfl rfl rfl
theorem jmpInd (w : Addr) : Statement (.jmpInd w) :=
  at_opcode 0x6C rfl rfl rfl rfl
theorem tax : Statement (.tax) :=
  at_opcode 0xAA rfl rfl rfl rfl
theorem tay : Statement (.tay) :=
  at_opcode 0xA8 rfl rfl rfl rfl
theorem txa : Statement (.txa) :=
  at_opcode 0x8A rfl rfl rfl rfl
theorem tya : Statement (.tya) :=
  at_opcode 0x98 rfl rfl rfl rfl
theorem tsx : Statement (.tsx) :=
  at_opcode 0xBA rfl rfl rfl rfl
theorem txs : Statement (.txs) :=
  at_opcode 0x9A rfl rfl rfl rfl
theorem ldaImm (v : Byte) : Statement (.ldaImm v) :=
  at_opcode 0xA9 rfl (congrArg Instr.ldaImm (lo8_w16 0 v)) rfl rfl
theorem ldaZp (b : Byte) : Statement (.ldaZp b) :=
  at_opcode 0xA5 rfl (congrArg Instr.ldaZp (lo8_w16 0 b)) rfl rfl
theorem ldaZpx (b : Byte) : Statement (.ldaZpx b) :=
  at_opcode 0xB5 rfl (congrArg Instr.ldaZpx (lo8_w16 0 b)) rfl rfl
theorem ldaAbs (w : Addr) : Statement (.ldaAbs w) :=
  at_opcode 0xAD rfl rfl rfl rfl
theorem ldaAbsx (w : Addr) : Statement (.ldaAbsx w) :=
  at_opcode 0xBD rfl rfl rfl rfl
theorem ldaAbsy (w : Addr) : Statement (.ldaAbsy w) :=
  at_opcode 0xB9 rfl rfl rfl rfl
theorem ldaIzx (b : Byte) : Statement (.ldaIzx b) :=
  at_opcode 0xA1 rfl (congrArg Instr.ldaIzx (lo8_w16 0 b)) rfl rfl
theorem ldaIzy (b : Byte) : Statement (.ldaIzy b) :=
  at_opcode 0xB1 rfl (congrArg Instr.ldaIzy (lo8_w16 0 b)) rfl rfl
theorem ldxImm (v : Byte) : Statement (.ldxImm v) :=
  at_opcode 0xA2 rfl (congrArg Instr.ldxImm (lo8_w16 0 v)) rfl rfl
theorem ldxZp (b : Byte) : Statement (.ldxZp b) :=
  at_opcode 0xA6 rfl (congrArg Instr.ldxZp (lo8_w16 0 b)) rfl rfl
theorem ldxZpy (b : Byte) : Statement (.ldxZpy b) :=
  at_opcode 0xB6 rfl (congrArg Instr.ldxZpy (lo8_w16 0 b)) rfl rfl
theorem ldxAbs (w : Addr) : Statement (.ldxAbs w) :=
  at_opcode 0xAE rfl rfl rfl rfl
theorem ldxAbsy (w : Addr) : Statement (.ldxAbsy w) :=
  at_opcode 0xBE rfl rfl rfl rfl
theorem ldyImm (v : Byte) : Statement (.ldyImm v) :=
  at_opcode 0xA0 rfl (congrArg Instr.ldyImm (lo8_w16 0 v)) rfl rfl
theorem ldyZp (b : Byte) : Statement (.ldyZp b) :=
  at_opcode 0xA4 rfl (congrArg Instr.ldyZp (lo8_w16 0 b)) rfl rfl
theorem ldyZpx (b : Byte) : Statement (.ldyZpx b) :=
  at_opcode 0xB4 rfl (congrArg Instr.ldyZpx (lo8_w16 0 b)) rfl rfl
theorem ldyAbs (w : Addr) : Statement (.ldyAbs w) :=
  at_opcode 0xAC rfl rfl rfl rfl
theorem ldyAbsx (w : Addr) : Statement (.ldyAbsx w) :=
  at_opcode 0xBC rfl rfl rfl rfl
theorem staZp (b : Byte) : Statement (.staZp b) :=
  at_opcode 0x85 rfl (congrArg Instr.staZp (lo8_w16 0 b)) rfl rfl
theorem staZpx (b : Byte) : Statement (.staZpx b) :=
  at_opcode 0x95 rfl (congrArg Instr.staZpx (lo8_w16 0 b)) rfl rfl
theorem staAbs (w : Addr) : Statement (.staAbs w) :=
  at_opcode 0x8D rfl rfl rfl rfl
theorem staAbsx (w : Addr) : Statement (.staAbsx w) :=
  at_opcode 0x9D rfl rfl rfl rfl
theorem staAbsy (w : Addr) : Statement (.staAbsy w) :=
  at_opcode 0x99 rfl rfl rfl rfl
theorem staIzx (b : Byte) : Statement (.staIzx b) :=
  at_opcode 0x81 rfl (congrArg Instr.staIzx (lo8_w16 0 b)) rfl rfl
theorem staIzy (b : Byte) : Statement (.staIzy b) :=
  at_opcode 0x91 rfl (congrArg Instr.staIzy (lo8_w16 0 b)) rfl rfl
theorem stxZp (b : Byte) : Statement (.stxZp b) :=
  at_opcode 0x86 rfl (congrArg Instr.stxZp (lo8_w16 0 b)) rfl rfl
theorem stxZpy (b : Byte) : Statement (.stxZpy b) :=
  at_opcode 0x96 rfl (congrArg Instr.stxZpy (lo8_w16 0 b)) rfl rfl
theorem stxAbs (w : Addr) : Statement (.stxAbs w) :=
  at_opcode 0x8E rfl rfl rfl rfl
theorem styZp (b : Byte) : Statement (.styZp b) :=
  at_opcode 0x84 rfl (congrArg Instr.styZp (lo8_w16 0 b)) rfl rfl
theorem styZpx (b : Byte) : Statement (.styZpx b) :=
  at_opcode 0x94 rfl (congrArg Instr.styZpx (lo8_w16 0 b)) rfl rfl
theorem styAbs (w : Addr) : Statement (.styAbs w) :=
  at_opcode 0x8C rfl rfl rfl rfl
theorem clc : Statement (.clc) :=
  at_opcode 0x18 rfl rfl rfl rfl
theorem sec : Statement (.sec) :=
  at_opcode 0x38 rfl rfl rfl rfl
theorem cli : Statement (.cli) :=
  at_opcode 0x58 rfl rfl rfl rfl
theorem sei : Statement (.sei) :=
  at_opcode 0x78 rfl rfl rfl rfl
theorem cld : Statement (.cld) :=
  at_opcode 0xD8 rfl rfl rfl rfl
theorem sed : Statement (.sed) :=
  at_opcode 0xF8 rfl rfl rfl rfl
theorem clv : Statement (.clv) :=
  at_opcode 0xB8 rfl rfl rfl rfl
theorem nopImp1A : Statement (.nopImp1A) :=
  at_opcode 0x1A rfl rfl rfl rfl
theorem nopImp3A : Statement (.nopImp3A) :=
  at_opcode 0x3A rfl rfl rfl rfl
theorem nopImp5A : Statement (.nopImp5A) :=
  at_opcode 0x5A rfl rfl rfl rfl
theorem nopImp7A : Statement (.nopImp7A) :=
  at_opcode 0x7A rfl rfl rfl rfl
theorem nopImpDA : Statement (.nopImpDA) :=
  at_opcode 0xDA rfl rfl rfl rfl
theorem nopImpEA : Statement (.nopImpEA) :=
  at_opcode 0xEA rfl rfl rfl rfl
theorem nopImpFA : Statement (.nopImpFA) :=
  at_opcode 0xFA rfl rfl rfl rfl
theorem nopImm80 (v : Byte) : Statement (.nopImm80 v) :=
  at_opcode 0x80 rfl (congrArg Instr.nopImm80 (lo8_w16 0 v)) rfl rfl
theorem nopImm82 (v : Byte) : Statement (.nopImm82 v) :=
  at_opcode 0x82 rfl (congrArg Instr.nopImm82 (lo8_w16 0 v)) rfl rfl
theorem nopImm89 (v : Byte) : Statement (.nopImm89 v) :=
  at_opcode 0x89 rfl (congrArg Instr.nopImm89 (lo8_w16 0 v)) rfl rfl
theorem nopImmC2 (v : Byte) : Statement (.nopImmC2 v) :=
  at_opcode 0xC2 rfl (congrArg Instr.nopImmC2 (lo8_w16 0 v)) rfl rfl
theorem nopImmE2 (v : Byte) : Statement (.nopImmE2 v) :=
  at_opcode 0xE2 rfl (congrArg Instr.nopImmE2 (lo8_w16 0 v)) rfl rfl
theorem nopZp04 (b : Byte) : Statement (.nopZp04 b) :=
  at_opcode 0x04 rfl (congrArg Instr.nopZp04 (lo8_w16 0 b)) rfl rfl
theorem nopZp44 (b : Byte) : Statement (.nopZp44 b) :=
  at_opcode 0x44 rfl (congrArg Instr.nopZp44 (lo8_w16 0 b)) rfl rfl
theorem nopZp64 (b : Byte) : Statement (.nopZp64 b) :=
  at_opcode 0x64 rfl (congrArg Instr.nopZp64 (lo8_w16 0 b)) rfl rfl
theorem nopZpx14 (b : Byte) : Statement (.nopZpx14 b) :=
  at_opcode 0x14 rfl (congrArg Instr.nopZpx14 (lo8_w16 0 b)) rfl rfl
theorem nopZpx34 (b : Byte) : Statement (.nopZpx34 b) :=
  at_opcode 0x34 rfl (congrArg Instr.nopZpx34 (lo8_w16 0 b)) rfl rfl
theorem nopZpx54 (b : Byte) : Statement (.nopZpx54 b) :=
  at_opcode 0x54 rfl (congrArg Instr.nopZpx54 (lo8_w16 0 b)) rfl rfl
theorem nopZpx74 (b : Byte) : Statement (.nopZpx74 b) :=
  at_opcode 0x74 rfl (congrArg Instr.nopZpx74 (lo8_w16 0 b)) rfl rfl
theorem nopZpxD4 (b : Byte) : Statement (.nopZpxD4 b) :=
  at_opcode 0xD4 rfl (congrArg Instr.nopZpxD4 (lo8_w16 0 b)) rfl rfl
theorem nopZpxF4 (b : Byte) : Statement (.nopZpxF4 b) :=
  at_opcode 0xF4 rfl (congrArg Instr.nopZpxF4 (lo8_w16 0 b)) rfl rfl
theorem nopAbs0C (w : Addr) : Statement (.nopAbs0C w) :=
  at_opcode 0x0C rfl rfl rfl rfl
theorem nopAbsx1C (w : Addr) : Statement (.nopAbsx1C w) :=
  at_opcode 0x1C rfl rfl rfl rfl
theorem nopAbsx3C (w : Addr) : Statement (.nopAbsx3C w) :=
  at_opcode 0x3C rfl rfl rfl rfl
theorem nopAbsx5C (w : Addr) : Statement (.nopAbsx5C w) :=
  at_opcode 0x5C rfl rfl rfl rfl
theorem nopAbsx7C (w : Addr) : Statement (.nopAbsx7C w) :=
  at_opcode 0x7C rfl rfl rfl rfl
theorem nopAbsxDC (w : Addr) : Statement (.nopAbsxDC w) :=
  at_opcode 0xDC rfl rfl rfl rfl
theorem nopAbsxFC (w : Addr) : Statement (.nopAbsxFC w) :=
  at_opcode 0xFC rfl rfl rfl rfl
theorem alrImm (v : Byte) : Statement (.alrImm v) :=
  at_opcode 0x4B rfl (congrArg Instr.alrImm (lo8_w16 0 v)) rfl rfl
theorem ancImm0B (v : Byte) : Statement (.ancImm0B v) :=
  at_opcode 0x0B rfl (congrArg Instr.ancImm0B (lo8_w16 0 v)) rfl rfl
theorem ancImm2B (v : Byte) : Statement (.ancImm2B v) :=
  at_opcode 0x2B rfl (congrArg Instr.ancImm2B (lo8_w16 0 v)) rfl rfl
theorem arrImm (v : Byte) : Statement (.arrImm v) :=
  at_opcode 0x6B rfl (congrArg Instr.arrImm (lo8_w16 0 v)) rfl rfl
theorem dcpZp (b : Byte) : Statement (.dcpZp b) :=
  at_opcode 0xC7 rfl (congrArg Instr.dcpZp (lo8_w16 0 b)) rfl rfl
theorem dcpZpx (b : Byte) : Statement (.dcpZpx b) :=
  at_opcode 0xD7 rfl (congrArg Instr.dcpZpx (lo8_w16 0 b)) rfl rfl
theorem dcpAbs (w : Addr) : Statement (.dcpAbs w) :=
  at_opcode 0xCF rfl rfl rfl rfl
theorem dcpAbsx (w : Addr) : Statement (.dcpAbsx w) :=
  at_opcode 0xDF rfl rfl rfl rfl
theorem dcpAbsy (w : Addr) : Statement (.dcpAbsy w) :=
  at_opcode 0xDB rfl rfl rfl rfl
theorem dcpIzx (b : Byte) : Statement (.dcpIzx b) :=
  at_opcode 0xC3 rfl (congrArg Instr.dcpIzx (lo8_w16 0 b)) rfl rfl
theorem dcpIzy (b : Byte) : Statement (.dcpIzy b) :=
  at_opcode 0xD3 rfl (congrArg Instr.dcpIzy (lo8_w16 0 b)) rfl rfl
theorem iscZp (b : Byte) : Statement (.iscZp b) :=
  at_opcode 0xE7 rfl (congrArg Instr.iscZp (lo8_w16 0 b)) rfl rfl
theorem iscZpx (b : Byte) : Statement (.iscZpx b) :=
  at_opcode 0xF7 rfl (congrArg Instr.iscZpx (lo8_w16 0 b)) rfl rfl
theorem iscAbs (w : Addr) : Statement (.iscAbs w) :=
  at_opcode 0xEF rfl rfl rfl rfl
theorem iscAbsx (w : Addr) : Statement (.iscAbsx w) :=
  at_opcode 0xFF rfl rfl rfl rfl
theorem iscAbsy (w : Addr) : Statement (.iscAbsy w) :=
  at_opcode 0xFB rfl rfl rfl rfl
theorem iscIzx (b : Byte) : Statement (.iscIzx b) :=
  at_opcode 0xE3 rfl (congrArg Instr.iscIzx (lo8_w16 0 b)) rfl rfl
theorem iscIzy (b : Byte) : Statement (.iscIzy b) :=
  at_opcode 0xF3 rfl (congrArg Instr.iscIzy (lo8_w16 0 b)) rfl rfl
theorem lasAbsy (w : Addr) : Statement (.lasAbsy w) :=
  at_opcode 0xBB rfl rfl rfl rfl
theorem laxZp (b : Byte) : Statement (.laxZp b) :=
  at_opcode 0xA7 rfl (congrArg Instr.laxZp (lo8_w16 0 b)) rfl rfl
theorem laxZpy (b : Byte) : Statement (.laxZpy b) :=
  at_opcode 0xB7 rfl (congrArg Instr.laxZpy (lo8_w16 0 b)) rfl rfl
theorem laxAbs (w : Addr) : Statement (.laxAbs w) :=
  at_opcode 0xAF rfl rfl rfl rfl
theorem laxAbsy (w : Addr) : Statement (.laxAbsy w) :=
  at_opcode 0xBF rfl rfl rfl rfl
theorem laxIzx (b : Byte) : Statement (.laxIzx b) :=
  at_opcode 0xA3 rfl (congrArg Instr.laxIzx (lo8_w16 0 b)) rfl rfl
theorem laxIzy (b : Byte) : Statement (.laxIzy b) :=
  at_opcode 0xB3 rfl (congrArg Instr.laxIzy (lo8_w16 0 b)) rfl rfl
theorem lxaImm (v : Byte) : Statement (.lxaImm v) :=
  at_opcode 0xAB rfl (congrArg Instr.lxaImm (lo8_w16 0 v)) rfl rfl
theorem rlaZp (b : Byte) : Statement (.rlaZp b) :=
  at_opcode 0x27 rfl (congrArg Instr.rlaZp (lo8_w16 0 b)) rfl rfl
theorem rlaZpx (b : Byte) : Statement (.rlaZpx b) :=
  at_opcode 0x37 rfl (congrArg Instr.rlaZpx (lo8_w16 0 b)) rfl rfl
theorem rlaAbs (w : Addr) : Statement (.rlaAbs w) :=
  at_opcode 0x2F rfl rfl rfl rfl
theorem rlaAbsx (w : Addr) : Statement (.rlaAbsx w) :=
  at_opcode 0x3F rfl rfl rfl rfl
theorem rlaAbsy (w : Addr) : Statement (.rlaAbsy w) :=
  at_opcode 0x3B rfl rfl rfl rfl
theorem rlaIzx (b : Byte) : Statement (.rlaIzx b) :=
  at_opcode 0x23 rfl (congrArg Instr.rlaIzx (lo8_w16 0 b)) rfl rfl
theorem rlaIzy (b : Byte) : Statement (.rlaIzy b) :=
  at_opcode 0x33 rfl (congrArg Instr.rlaIzy (lo8_w16 0 b)) rfl rfl
theorem rraZp (b : Byte) : Statement (.rraZp b) :=
  at_opcode 0x67 rfl (congrArg Instr.rraZp (lo8_w16 0 b)) rfl rfl
theorem rraZpx (b : Byte) : Statement (.rraZpx b) :=
  at_opcode 0x77 rfl (congrArg Instr.rraZpx (lo8_w16 0 b)) rfl rfl
theorem rraAbs (w : Addr) : Statement (.rraAbs w) :=
  at_opcode 0x6F rfl rfl rfl rfl
theorem rraAbsx (w : Addr) : Statement (.rraAbsx w) :=
  at_opcode 0x7F rfl rfl rfl rfl
theorem rraAbsy (w : Addr) : Statement (.rraAbsy w) :=
  at_opcode 0x7B rfl rfl rfl rfl
theorem rraIzx (b : Byte) : Statement (.rraIzx b) :=
  at_opcode 0x63 rfl (congrArg Instr.rraIzx (lo8_w16 0 b)) rfl rfl
theorem rraIzy (b : Byte) : Statement (.rraIzy b) :=
  at_opcode 0x73 rfl (congrArg Instr.rraIzy (lo8_w16 0 b)) rfl rfl
theorem saxZp (b : Byte) : Statement (.saxZp b) :=
  at_opcode 0x87 rfl (congrArg Instr.saxZp (lo8_w16 0 b)) rfl rfl
theorem saxZpy (b : Byte) : Statement (.saxZpy b) :=
  at_opcode 0x97 rfl (congrArg Instr.saxZpy (lo8_w16 0 b)) rfl rfl
theorem saxAbs (w : Addr) : Statement (.saxAbs w) :=
  at_opcode 0x8F rfl rfl rfl rfl
theorem saxIzx (b : Byte) : Statement (.saxIzx b) :=
  at_opcode 0x83 rfl (congrArg Instr.saxIzx (lo8_w16 0 b)) rfl rfl
theorem sbxImm (v : Byte) : Statement (.sbxImm v) :=
  at_opcode 0xCB rfl (congrArg Instr.sbxImm (lo8_w16 0 v)) rfl rfl
theorem shaAbsy (w : Addr) : Statement (.shaAbsy w) :=
  at_opcode 0x9F rfl rfl rfl rfl
theorem shaIzy (b : Byte) : Statement (.shaIzy b) :=
  at_opcode 0x93 rfl (congrArg Instr.shaIzy (lo8_w16 0 b)) rfl rfl
theorem shxAbsy (w : Addr) : Statement (.shxAbsy w) :=
  at_opcode 0x9E rfl rfl rfl rfl
theorem shyAbsx (w : Addr) : Statement (.shyAbsx w) :=
  at_opcode 0x9C rfl rfl rfl rfl
theorem sloZp (b : Byte) : Statement (.sloZp b) :=
  at_opcode 0x07 rfl (congrArg Instr.sloZp (lo8_w16 0 b)) rfl rfl
theorem sloZpx (b : Byte) : Statement (.sloZpx b) :=
  at_opcode 0x17 rfl (congrArg Instr.sloZpx (lo8_w16 0 b)) rfl rfl
theorem sloAbs (w : Addr) : Statement (.sloAbs w) :=
  at_opcode 0x0F rfl rfl rfl rfl
theorem sloAbsx (w : Addr) : Statement (.sloAbsx w) :=
  at_opcode 0x1F rfl rfl rfl rfl
theorem sloAbsy (w : Addr) : Statement (.sloAbsy w) :=
  at_opcode 0x1B rfl rfl rfl rfl
theorem sloIzx (b : Byte) : Statement (.sloIzx b) :=
  at_opcode 0x03 rfl (congrArg Instr.sloIzx (lo8_w16 0 b)) rfl rfl
theorem sloIzy (b : Byte) : Statement (.sloIzy b) :=
  at_opcode 0x13 rfl (congrArg Instr.sloIzy (lo8_w16 0 b)) rfl rfl
theorem sreZp (b : Byte) : Statement (.sreZp b) :=
  at_opcode 0x47 rfl (congrArg Instr.sreZp (lo8_w16 0 b)) rfl rfl
theorem sreZpx (b : Byte) : Statement (.sreZpx b) :=
  at_opcode 0x57 rfl (congrArg Instr.sreZpx (lo8_w16 0 b)) rfl rfl
theorem sreAbs (w : Addr) : Statement (.sreAbs w) :=
  at_opcode 0x4F rfl rfl rfl rfl
theorem sreAbsx (w : Addr) : Statement (.sreAbsx w) :=
  at_opcode 0x5F rfl rfl rfl rfl
theorem sreAbsy (w : Addr) : Statement (.sreAbsy w) :=
  at_opcode 0x5B rfl rfl rfl rfl
theorem sreIzx (b : Byte) : Statement (.sreIzx b) :=
  at_opcode 0x43 rfl (congrArg Instr.sreIzx (lo8_w16 0 b)) rfl rfl
theorem sreIzy (b : Byte) : Statement (.sreIzy b) :=
  at_opcode 0x53 rfl (congrArg Instr.sreIzy (lo8_w16 0 b)) rfl rfl
theorem tasAbsy (w : Addr) : Statement (.tasAbsy w) :=
  at_opcode 0x9B rfl rfl rfl rfl
theorem aneImm (v : Byte) : Statement (.aneImm v) :=
  at_opcode 0x8B rfl (congrArg Instr.aneImm (lo8_w16 0 v)) rfl rfl
theorem usbcImm (v : Byte) : Statement (.usbcImm v) :=
  at_opcode 0xEB rfl (congrArg Instr.usbcImm (lo8_w16 0 v)) rfl rfl
theorem jam02 : Statement (.jam02) :=
  at_opcode 0x02 rfl rfl rfl rfl
theorem jam12 : Statement (.jam12) :=
  at_opcode 0x12 rfl rfl rfl rfl
theorem jam22 : Statement (.jam22) :=
  at_opcode 0x22 rfl rfl rfl rfl
theorem jam32 : Statement (.jam32) :=
  at_opcode 0x32 rfl rfl rfl rfl
theorem jam42 : Statement (.jam42) :=
  at_opcode 0x42 rfl rfl rfl rfl
theorem jam52 : Statement (.jam52) :=
  at_opcode 0x52 rfl rfl rfl rfl
theorem jam62 : Statement (.jam62) :=
  at_opcode 0x62 rfl rfl rfl rfl
theorem jam72 : Statement (.jam72) :=
  at_opcode 0x72 rfl rfl rfl rfl
theorem jam92 : Statement (.jam92) :=
  at_opcode 0x92 rfl rfl rfl rfl
theorem jamB2 : Statement (.jamB2) :=
  at_opcode 0xB2 rfl rfl rfl rfl
theorem jamD2 : Statement (.jamD2) :=
  at_opcode 0xD2 rfl rfl rfl rfl
theorem jamF2 : Statement (.jamF2) :=
  at_opcode 0xF2 rfl rfl rfl rfl

/-- Every instruction has its lemma. -/
theorem every : ∀ i : Instr, Statement i
  | .adcImm v => adcImm v
  | .adcZp b => adcZp b
  | .adcZpx b => adcZpx b
  | .adcAbs w => adcAbs w
  | .adcAbsx w => adcAbsx w
  | .adcAbsy w => adcAbsy w
  | .adcIzx b => adcIzx b
  | .adcIzy b => adcIzy b
  | .sbcImm v => sbcImm v
  | .sbcZp b => sbcZp b
  | .sbcZpx b => sbcZpx b
  | .sbcAbs w => sbcAbs w
  | .sbcAbsx w => sbcAbsx w
  | .sbcAbsy w => sbcAbsy w
  | .sbcIzx b => sbcIzx b
  | .sbcIzy b => sbcIzy b
  | .andImm v => andImm v
  | .andZp b => andZp b
  | .andZpx b => andZpx b
  | .andAbs w => andAbs w
  | .andAbsx w => andAbsx w
  | .andAbsy w => andAbsy w
  | .andIzx b => andIzx b
  | .andIzy b => andIzy b
  | .oraImm v => oraImm v
  | .oraZp b => oraZp b
  | .oraZpx b => oraZpx b
  | .oraAbs w => oraAbs w
  | .oraAbsx w => oraAbsx w
  | .oraAbsy w => oraAbsy w
  | .oraIzx b => oraIzx b
  | .oraIzy b => oraIzy b
  | .eorImm v => eorImm v
  | .eorZp b => eorZp b
  | .eorZpx b => eorZpx b
  | .eorAbs w => eorAbs w
  | .eorAbsx w => eorAbsx w
  | .eorAbsy w => eorAbsy w
  | .eorIzx b => eorIzx b
  | .eorIzy b => eorIzy b
  | .bitZp b => bitZp b
  | .bitAbs w => bitAbs w
  | .aslAcc => aslAcc
  | .aslZp b => aslZp b
  | .aslZpx b => aslZpx b
  | .aslAbs w => aslAbs w
  | .aslAbsx w => aslAbsx w
  | .lsrAcc => lsrAcc
  | .lsrZp b => lsrZp b
  | .lsrZpx b => lsrZpx b
  | .lsrAbs w => lsrAbs w
  | .lsrAbsx w => lsrAbsx w
  | .rolAcc => rolAcc
  | .rolZp b => rolZp b
  | .rolZpx b => rolZpx b
  | .rolAbs w => rolAbs w
  | .rolAbsx w => rolAbsx w
  | .rorAcc => rorAcc
  | .rorZp b => rorZp b
  | .rorZpx b => rorZpx b
  | .rorAbs w => rorAbs w
  | .rorAbsx w => rorAbsx w
  | .cmpImm v => cmpImm v
  | .cmpZp b => cmpZp b
  | .cmpZpx b => cmpZpx b
  | .cmpAbs w => cmpAbs w
  | .cmpAbsx w => cmpAbsx w
  | .cmpAbsy w => cmpAbsy w
  | .cmpIzx b => cmpIzx b
  | .cmpIzy b => cmpIzy b
  | .cpxImm v => cpxImm v
  | .cpxZp b => cpxZp b
  | .cpxAbs w => cpxAbs w
  | .cpyImm v => cpyImm v
  | .cpyZp b => cpyZp b
  | .cpyAbs w => cpyAbs w
  | .incZp b => incZp b
  | .incZpx b => incZpx b
  | .incAbs w => incAbs w
  | .incAbsx w => incAbsx w
  | .decZp b => decZp b
  | .decZpx b => decZpx b
  | .decAbs w => decAbs w
  | .decAbsx w => decAbsx w
  | .inx => inx
  | .iny => iny
  | .dex => dex
  | .dey => dey
  | .bcc o => bcc o
  | .bcs o => bcs o
  | .beq o => beq o
  | .bne o => bne o
  | .bmi o => bmi o
  | .bpl o => bpl o
  | .bvc o => bvc o
  | .bvs o => bvs o
  | .pha => pha
  | .php => php
  | .pla => pla
  | .plp => plp
  | .jsrAbs w => jsrAbs w
  | .rts => rts
  | .rti => rti
  | .brk => brk
  | .jmpAbs w => jmpAbs w
  | .jmpInd w => jmpInd w
  | .tax => tax
  | .tay => tay
  | .txa => txa
  | .tya => tya
  | .tsx => tsx
  | .txs => txs
  | .ldaImm v => ldaImm v
  | .ldaZp b => ldaZp b
  | .ldaZpx b => ldaZpx b
  | .ldaAbs w => ldaAbs w
  | .ldaAbsx w => ldaAbsx w
  | .ldaAbsy w => ldaAbsy w
  | .ldaIzx b => ldaIzx b
  | .ldaIzy b => ldaIzy b
  | .ldxImm v => ldxImm v
  | .ldxZp b => ldxZp b
  | .ldxZpy b => ldxZpy b
  | .ldxAbs w => ldxAbs w
  | .ldxAbsy w => ldxAbsy w
  | .ldyImm v => ldyImm v
  | .ldyZp b => ldyZp b
  | .ldyZpx b => ldyZpx b
  | .ldyAbs w => ldyAbs w
  | .ldyAbsx w => ldyAbsx w
  | .staZp b => staZp b
  | .staZpx b => staZpx b
  | .staAbs w => staAbs w
  | .staAbsx w => staAbsx w
  | .staAbsy w => staAbsy w
  | .staIzx b => staIzx b
  | .staIzy b => staIzy b
  | .stxZp b => stxZp b
  | .stxZpy b => stxZpy b
  | .stxAbs w => stxAbs w
  | .styZp b => styZp b
  | .styZpx b => styZpx b
  | .styAbs w => styAbs w
  | .clc => clc
  | .sec => sec
  | .cli => cli
  | .sei => sei
  | .cld => cld
  | .sed => sed
  | .clv => clv
  | .nopImp1A => nopImp1A
  | .nopImp3A => nopImp3A
  | .nopImp5A => nopImp5A
  | .nopImp7A => nopImp7A
  | .nopImpDA => nopImpDA
  | .nopImpEA => nopImpEA
  | .nopImpFA => nopImpFA
  | .nopImm80 v => nopImm80 v
  | .nopImm82 v => nopImm82 v
  | .nopImm89 v => nopImm89 v
  | .nopImmC2 v => nopImmC2 v
  | .nopImmE2 v => nopImmE2 v
  | .nopZp04 b => nopZp04 b
  | .nopZp44 b => nopZp44 b
  | .nopZp64 b => nopZp64 b
  | .nopZpx14 b => nopZpx14 b
  | .nopZpx34 b => nopZpx34 b
  | .nopZpx54 b => nopZpx54 b
  | .nopZpx74 b => nopZpx74 b
  | .nopZpxD4 b => nopZpxD4 b
  | .nopZpxF4 b => nopZpxF4 b
  | .nopAbs0C w => nopAbs0C w
  | .nopAbsx1C w => nopAbsx1C w
  | .nopAbsx3C w => nopAbsx3C w
  | .nopAbsx5C w => nopAbsx5C w
  | .nopAbsx7C w => nopAbsx7C w
  | .nopAbsxDC w => nopAbsxDC w
  | .nopAbsxFC w => nopAbsxFC w
  | .alrImm v => alrImm v
  | .ancImm0B v => ancImm0B v
  | .ancImm2B v => ancImm2B v
  | .arrImm v => arrImm v
  | .dcpZp b => dcpZp b
  | .dcpZpx b => dcpZpx b
  | .dcpAbs w => dcpAbs w
  | .dcpAbsx w => dcpAbsx w
  | .dcpAbsy w => dcpAbsy w
  | .dcpIzx b => dcpIzx b
  | .dcpIzy b => dcpIzy b
  | .iscZp b => iscZp b
  | .iscZpx b => iscZpx b
  | .iscAbs w => iscAbs w
  | .iscAbsx w => iscAbsx w
  | .iscAbsy w => iscAbsy w
  | .iscIzx b => iscIzx b
  | .iscIzy b => iscIzy b
  | .lasAbsy w => lasAbsy w
  | .laxZp b => laxZp b
  | .laxZpy b => laxZpy b
  | .laxAbs w => laxAbs w
  | .laxAbsy w => laxAbsy w
  | .laxIzx b => laxIzx b
  | .laxIzy b => laxIzy b
  | .lxaImm v => lxaImm v
  | .rlaZp b => rlaZp b
  | .rlaZpx b => rlaZpx b
  | .rlaAbs w => rlaAbs w
  | .rlaAbsx w => rlaAbsx w
  | .rlaAbsy w => rlaAbsy w
  | .rlaIzx b => rlaIzx b
  | .rlaIzy b => rlaIzy b
  | .rraZp b => rraZp b
  | .rraZpx b => rraZpx b
  | .rraAbs w => rraAbs w
  | .rraAbsx w => rraAbsx w
  | .rraAbsy w => rraAbsy w
  | .rraIzx b => rraIzx b
  | .rraIzy b => rraIzy b
  | .saxZp b => saxZp b
  | .saxZpy b => saxZpy b
  | .saxAbs w => saxAbs w
  | .saxIzx b => saxIzx b
  | .sbxImm v => sbxImm v
  | .shaAbsy w => shaAbsy w
  | .shaIzy b => shaIzy b
  | .shxAbsy w => shxAbsy w
  | .shyAbsx w => shyAbsx w
  | .sloZp b => sloZp b
  | .sloZpx b => sloZpx b
  | .sloAbs w => sloAbs w
  | .sloAbsx w => sloAbsx w
  | .sloAbsy w => sloAbsy w
  | .sloIzx b => sloIzx b
  | .sloIzy b => sloIzy b
  | .sreZp b => sreZp b
  | .sreZpx b => sreZpx b
  | .sreAbs w => sreAbs w
  | .sreAbsx w => sreAbsx w
  | .sreAbsy w => sreAbsy w
  | .sreIzx b => sreIzx b
  | .sreIzy b => sreIzy b
  | .tasAbsy w => tasAbsy w
  | .aneImm v => aneImm v
  | .usbcImm v => usbcImm v
  | .jam02 => jam02
  | .jam12 => jam12
  | .jam22 => jam22
  | .jam32 => jam32
  | .jam42 => jam42
  | .jam52 => jam52
  | .jam62 => jam62
  | .jam72 => jam72
  | .jam92 => jam92
  | .jamB2 => jamB2
  | .jamD2 => jamD2
  | .jamF2 => jamF2

end Sys2Proof.Laws.Row
end

