-- ==== Sys2Proof/Laws/Encoding.lean ====
section
/-! SUPPORT. What follows from every instruction having its own row (30_encoding R100, R109): the opcode byte and the operand
determine the instruction. -/

namespace Sys2Proof

/-- An instruction is what its opcode byte's form builds from its operand. -/
theorem Instr.build_self (i : Instr) : (form i.opcode).build i.operand.word = i :=
  (Laws.Row.every i).1

/-- An instruction with a known opcode byte is one the form of that byte builds. -/
theorem Instr.exists_build {i : Instr} {opc : Byte} (h : i.opcode = opc) :
    ∃ w, i = (form opc).build w :=
  ⟨i.operand.word, by rw [← h]; exact i.build_self.symm⟩

theorem Instr.descriptor_mnemonic (i : Instr) : (descriptorOf i.opcode).mnemonic = i.mnemonic :=
  (Laws.Row.every i).2.1

theorem Instr.descriptor_mode (i : Instr) : (descriptorOf i.opcode).mode = i.operand.mode :=
  (Laws.Row.every i).2.2

/-- Every row of the Instruction Table has 16 entries (R105, R109). -/
theorem tableRow_length (hi : Nat) : (tableRow hi).length = 16 := by
  unfold tableRow
  split <;> rfl

/-- Every row of the decoder has 16 entries (R105). -/
theorem formRow_length (hi : Nat) : (formRow hi).length = 16 := by
  unfold formRow
  split <;> rfl

/-- Every opcode byte is the opcode of the instruction its form builds, whatever the operand (R105). -/
theorem opcode_build : ∀ opc : Byte, ∀ w : Addr, ((form opc).build w).opcode = opc := by
  intro opc w
  obtain ⟨n, hn, rfl⟩ : ∃ n, n < 256 ∧ opc = BitVec.ofNat 8 n := ⟨opc.toNat, opc.isLt, by simp⟩
  interval_cases n <;> rfl

section
variable {opc : Byte} (rest : List Byte)

/-- Decoding a one-byte instruction. -/
theorem decode_imp {i : Instr} (h : form opc = .imp i) : decode (opc :: rest) = .ok (i, rest) := by
  simp [decode, h]

/-- Decoding an instruction with one operand byte. -/
theorem decode_byte {f : Byte → Instr} (h : form opc = .byte f) (b : Byte) :
    decode (opc :: b :: rest) = .ok (f b, rest) := by
  simp [decode, h]

/-- Decoding an instruction with a 16-bit operand, low byte first. -/
theorem decode_word {f : Addr → Instr} (h : form opc = .word f) (w : Addr) :
    decode (opc :: lo8 w :: hi8 w :: rest) = .ok (f w, rest) := by
  simp [decode, h]

end

end Sys2Proof
end

