-- ==== Sys2Proof/Laws/Steps.lean ====
section
/-! SUPPORT. What an instruction and a tick can do to RAM and to the event history, said once: only bus accesses touch them
(20_memory R65 to R92, 40_dispatch R131), so what every bus access keeps, every step keeps. -/

namespace Sys2Proof.Machine

/-- `t` is `s` after some bus reads and writes, with anything done to the registers in between. -/
inductive BusSteps : State → State → Prop where
  | refl (s : State) : BusSteps s s
  | read {s t : State} (a : Addr) (h : BusSteps s t) : BusSteps s (memRead a t).2
  | write {s t : State} (a : Addr) (v : Byte) (h : BusSteps s t) : BusSteps s (memWrite a v t)
  | regs {s t u : State} (h : BusSteps s t) (hr : u.ram = t.ram) (he : u.events = t.events)
      (hx : u.extReads = t.extReads) : BusSteps s u

/-- A function of the state that makes no bus access. -/
def NoBus (f : State → State) : Prop :=
  ∀ s, (f s).ram = s.ram ∧ (f s).events = s.events ∧ (f s).extReads = s.extReads

theorem extReads_memRead_le (a : Addr) (s : State) : s.extReads ≤ (memRead a s).2.extReads := by
  rcases memRead_cases a s with h | ⟨port, h⟩
  · rw [h]
  · rw [h]; exact Nat.le_succ _

namespace BusSteps

variable {s t : State}

theorem noBus {f : State → State} (hf : NoBus f) (h : BusSteps s t) : BusSteps s (f t) :=
  .regs h (hf t).1 (hf t).2.1 (hf t).2.2

/-- The history only grows, and no external read is taken back (R92). -/
theorem grows (h : BusSteps s t) : HistoryGrows s t ∧ s.extReads ≤ t.extReads := by
  induction h with
  | refl => exact ⟨.refl _, Nat.le_refl _⟩
  | read a _ ih => exact ⟨ih.1.trans (memRead_grows a _), ih.2.trans (extReads_memRead_le a _)⟩
  | write a v _ ih => exact ⟨ih.1.trans (memWrite_grows a v _), by simpa using ih.2⟩
  | regs _ _ he hx ih => exact ⟨ih.1.of_events_eq he, by rw [hx]; exact ih.2⟩

/-- RAM stays in the canonical form and within its 2048 bytes. -/
theorem ram (h : BusSteps s t) (hw : s.ram.wf = true) (hb : s.ram.below 2048 = true) :
    t.ram.wf = true ∧ t.ram.below 2048 = true := by
  induction h with
  | refl => exact ⟨hw, hb⟩
  | read a _ ih => simpa using ih
  | write a v _ ih => exact memWrite_ram a v _ ih.1 ih.2
  | regs _ hr _ _ ih => rw [hr]; exact ih

theorem push (v : Byte) (h : BusSteps s t) : BusSteps s (push v t) :=
  .regs (.write (stackAddr t.sp) v h) rfl rfl rfl

theorem pull (h : BusSteps s t) : BusSteps s (pull t).2 := .read _ (.regs h rfl rfl rfl)

theorem read16 (a : Addr) (h : BusSteps s t) : BusSteps s (read16 a t).2 := .read _ (.read _ h)

theorem resolve (o : Operand) (h : BusSteps s t) : BusSteps s (resolve o t).2 := by
  cases o <;> first | exact h | exact .read _ (.read _ h)

theorem operandByte (o : Operand) (r : Resolved) (h : BusSteps s t) :
    BusSteps s (operandByte o r t).2 := by
  cases o <;> first | exact h | exact .read _ h

theorem takeTrap (s : State) : BusSteps s (takeTrap s) := by
  have h : BusSteps s (Machine.read16 brkVector ((Machine.push (pushImage s.p)
      (Machine.push (lo8 (s.pc + 1)) (Machine.push (hi8 (s.pc + 1)) s))).setI true)).2 :=
    .read16 _ (.noBus (fun _ => ⟨rfl, rfl, rfl⟩) (.push _ (.push _ (.push _ (.refl s)))))
  exact .noBus (f := State.setPc _) (fun _ => ⟨rfl, rfl, rfl⟩) h

theorem returnFromTrap (s : State) : BusSteps s (returnFromTrap s) := by
  have h : BusSteps s (Machine.pull (Machine.pull
      ((Machine.pull s).2.setP (restoreStatus s.params.plpBreak s.p (Machine.pull s).1))).2).2 :=
    .pull (.pull (.noBus (fun _ => ⟨rfl, rfl, rfl⟩) (.pull (.refl s))))
  exact .noBus (f := State.setPc _) (fun _ => ⟨rfl, rfl, rfl⟩) h

theorem rts (s : State) : BusSteps s (opRts s) := by
  have h : BusSteps s (Machine.pull (Machine.pull s).2).2 := .pull (.pull (.refl s))
  exact .noBus (f := State.setPc _) (fun _ => ⟨rfl, rfl, rfl⟩) h

theorem branchTo (cond : Bool) (ea : Addr) (h : BusSteps s t) : BusSteps s (branchTo cond ea t) := by
  cases cond
  · exact h
  · exact .regs h rfl rfl rfl

/-! ### The access patterns. -/

theorem implied {opc : Byte} {f : State → State} (hf : BusSteps s (f s))
    (h : impliedInstr opc f s = .next t) : BusSteps s t := by
  cases h
  exact .regs hf rfl rfl rfl

theorem readPattern {opc : Byte} {f : Byte → State → State} {o : Operand} (hf : ∀ m, NoBus (f m))
    (h : readInstr opc f o s = .next t) : BusSteps s t := by
  cases h
  exact .regs (noBus (hf _) (.operandByte _ _ (.resolve _ (.refl s)))) rfl rfl rfl

theorem store {opc : Byte} {value : State → Byte} {o : Operand}
    (h : storeInstr opc value o s = .next t) : BusSteps s t := by
  cases h
  exact .regs (.write _ _ (.resolve _ (.refl s))) rfl rfl rfl

theorem rmw {opc : Byte} {f : Byte → State → Byte × State} {after : Byte → State → State}
    {o : Operand} (hf : ∀ m, NoBus (fun s => (f m s).2)) (ha : ∀ m, NoBus (after m))
    (h : rmwInstr opc f after o s = .next t) : BusSteps s t := by
  cases o <;> cases h
  case acc =>
    have h1 : BusSteps s ((f s.a s).2.setA (f s.a s).1) := .regs (noBus (hf s.a) (.refl s)) rfl rfl rfl
    have h2 : BusSteps s (after (f s.a s).1 ((f s.a s).2.setA (f s.a s).1)) := noBus (ha _) h1
    exact .regs h2 rfl rfl rfl
  all_goals
    exact .regs (noBus (ha _) (.write _ _ (noBus (hf _) (.read _ (.resolve _ (.refl s)))))) rfl rfl rfl

theorem shx {opc : Byte} {first : State → State} {value : State → Byte} {o : Operand}
    (hf : NoBus first) (h : shxInstr opc first value o s = .next t) : BusSteps s t := by
  cases h
  exact .regs (.write _ _ (noBus hf (.resolve _ (.refl s)))) rfl rfl rfl

theorem nop {opc : Byte} {o : Operand} (h : nopInstr opc o s = .next t) : BusSteps s t := by
  cases h
  split
  · exact .noBus (fun _ => ⟨rfl, rfl, rfl⟩) (.read _ (.resolve _ (.refl s)))
  · exact .noBus (fun _ => ⟨rfl, rfl, rfl⟩) (.resolve _ (.refl s))

theorem branch {opc : Byte} {cond : Bool} {o : Operand} (h : branchInstr opc cond o s = .next t) :
    BusSteps s t := by
  cases h
  exact .regs (.branchTo _ _ (.resolve _ (.refl s))) rfl rfl rfl

theorem jmp {opc : Byte} {o : Operand} (h : jmpInstr opc o s = .next t) : BusSteps s t := by
  cases h
  exact .regs (.resolve _ (.refl s)) rfl rfl rfl

theorem jsr {opc : Byte} {o : Operand} (h : jsrInstr opc o s = .next t) : BusSteps s t := by
  cases h
  exact .regs (.push _ (.push _ (.resolve _ (.refl s)))) rfl rfl rfl

end BusSteps

/-! ### Every instruction. -/

theorem execAdcImm_busSteps {v : Byte} {s t : State} (h : execAdcImm v s = .next t) : BusSteps s t :=
  .readPattern (f := addCore) (fun _ _ => ⟨rfl, rfl, rfl⟩) h
theorem execAdcZp_busSteps {b : Byte} {s t : State} (h : execAdcZp b s = .next t) : BusSteps s t :=
  .readPattern (f := addCore) (fun _ _ => ⟨rfl, rfl, rfl⟩) h
theorem execAdcZpx_busSteps {b : Byte} {s t : State} (h : execAdcZpx b s = .next t) : BusSteps s t :=
  .readPattern (f := addCore) (fun _ _ => ⟨rfl, rfl, rfl⟩) h
theorem execAdcAbs_busSteps {w : Addr} {s t : State} (h : execAdcAbs w s = .next t) : BusSteps s t :=
  .readPattern (f := addCore) (fun _ _ => ⟨rfl, rfl, rfl⟩) h
theorem execAdcAbsx_busSteps {w : Addr} {s t : State} (h : execAdcAbsx w s = .next t) : BusSteps s t :=
  .readPattern (f := addCore) (fun _ _ => ⟨rfl, rfl, rfl⟩) h
theorem execAdcAbsy_busSteps {w : Addr} {s t : State} (h : execAdcAbsy w s = .next t) : BusSteps s t :=
  .readPattern (f := addCore) (fun _ _ => ⟨rfl, rfl, rfl⟩) h
theorem execAdcIzx_busSteps {b : Byte} {s t : State} (h : execAdcIzx b s = .next t) : BusSteps s t :=
  .readPattern (f := addCore) (fun _ _ => ⟨rfl, rfl, rfl⟩) h
theorem execAdcIzy_busSteps {b : Byte} {s t : State} (h : execAdcIzy b s = .next t) : BusSteps s t :=
  .readPattern (f := addCore) (fun _ _ => ⟨rfl, rfl, rfl⟩) h
theorem execSbcImm_busSteps {v : Byte} {s t : State} (h : execSbcImm v s = .next t) : BusSteps s t :=
  .readPattern (f := opSbc) (fun _ _ => ⟨rfl, rfl, rfl⟩) h
theorem execSbcZp_busSteps {b : Byte} {s t : State} (h : execSbcZp b s = .next t) : BusSteps s t :=
  .readPattern (f := opSbc) (fun _ _ => ⟨rfl, rfl, rfl⟩) h
theorem execSbcZpx_busSteps {b : Byte} {s t : State} (h : execSbcZpx b s = .next t) : BusSteps s t :=
  .readPattern (f := opSbc) (fun _ _ => ⟨rfl, rfl, rfl⟩) h
theorem execSbcAbs_busSteps {w : Addr} {s t : State} (h : execSbcAbs w s = .next t) : BusSteps s t :=
  .readPattern (f := opSbc) (fun _ _ => ⟨rfl, rfl, rfl⟩) h
theorem execSbcAbsx_busSteps {w : Addr} {s t : State} (h : execSbcAbsx w s = .next t) : BusSteps s t :=
  .readPattern (f := opSbc) (fun _ _ => ⟨rfl, rfl, rfl⟩) h
theorem execSbcAbsy_busSteps {w : Addr} {s t : State} (h : execSbcAbsy w s = .next t) : BusSteps s t :=
  .readPattern (f := opSbc) (fun _ _ => ⟨rfl, rfl, rfl⟩) h
theorem execSbcIzx_busSteps {b : Byte} {s t : State} (h : execSbcIzx b s = .next t) : BusSteps s t :=
  .readPattern (f := opSbc) (fun _ _ => ⟨rfl, rfl, rfl⟩) h
theorem execSbcIzy_busSteps {b : Byte} {s t : State} (h : execSbcIzy b s = .next t) : BusSteps s t :=
  .readPattern (f := opSbc) (fun _ _ => ⟨rfl, rfl, rfl⟩) h
theorem execAndImm_busSteps {v : Byte} {s t : State} (h : execAndImm v s = .next t) : BusSteps s t :=
  .readPattern (f := opAnd) (fun _ _ => ⟨rfl, rfl, rfl⟩) h
theorem execAndZp_busSteps {b : Byte} {s t : State} (h : execAndZp b s = .next t) : BusSteps s t :=
  .readPattern (f := opAnd) (fun _ _ => ⟨rfl, rfl, rfl⟩) h
theorem execAndZpx_busSteps {b : Byte} {s t : State} (h : execAndZpx b s = .next t) : BusSteps s t :=
  .readPattern (f := opAnd) (fun _ _ => ⟨rfl, rfl, rfl⟩) h
theorem execAndAbs_busSteps {w : Addr} {s t : State} (h : execAndAbs w s = .next t) : BusSteps s t :=
  .readPattern (f := opAnd) (fun _ _ => ⟨rfl, rfl, rfl⟩) h
theorem execAndAbsx_busSteps {w : Addr} {s t : State} (h : execAndAbsx w s = .next t) : BusSteps s t :=
  .readPattern (f := opAnd) (fun _ _ => ⟨rfl, rfl, rfl⟩) h
theorem execAndAbsy_busSteps {w : Addr} {s t : State} (h : execAndAbsy w s = .next t) : BusSteps s t :=
  .readPattern (f := opAnd) (fun _ _ => ⟨rfl, rfl, rfl⟩) h
theorem execAndIzx_busSteps {b : Byte} {s t : State} (h : execAndIzx b s = .next t) : BusSteps s t :=
  .readPattern (f := opAnd) (fun _ _ => ⟨rfl, rfl, rfl⟩) h
theorem execAndIzy_busSteps {b : Byte} {s t : State} (h : execAndIzy b s = .next t) : BusSteps s t :=
  .readPattern (f := opAnd) (fun _ _ => ⟨rfl, rfl, rfl⟩) h
theorem execOraImm_busSteps {v : Byte} {s t : State} (h : execOraImm v s = .next t) : BusSteps s t :=
  .readPattern (f := opOra) (fun _ _ => ⟨rfl, rfl, rfl⟩) h
theorem execOraZp_busSteps {b : Byte} {s t : State} (h : execOraZp b s = .next t) : BusSteps s t :=
  .readPattern (f := opOra) (fun _ _ => ⟨rfl, rfl, rfl⟩) h
theorem execOraZpx_busSteps {b : Byte} {s t : State} (h : execOraZpx b s = .next t) : BusSteps s t :=
  .readPattern (f := opOra) (fun _ _ => ⟨rfl, rfl, rfl⟩) h
theorem execOraAbs_busSteps {w : Addr} {s t : State} (h : execOraAbs w s = .next t) : BusSteps s t :=
  .readPattern (f := opOra) (fun _ _ => ⟨rfl, rfl, rfl⟩) h
theorem execOraAbsx_busSteps {w : Addr} {s t : State} (h : execOraAbsx w s = .next t) : BusSteps s t :=
  .readPattern (f := opOra) (fun _ _ => ⟨rfl, rfl, rfl⟩) h
theorem execOraAbsy_busSteps {w : Addr} {s t : State} (h : execOraAbsy w s = .next t) : BusSteps s t :=
  .readPattern (f := opOra) (fun _ _ => ⟨rfl, rfl, rfl⟩) h
theorem execOraIzx_busSteps {b : Byte} {s t : State} (h : execOraIzx b s = .next t) : BusSteps s t :=
  .readPattern (f := opOra) (fun _ _ => ⟨rfl, rfl, rfl⟩) h
theorem execOraIzy_busSteps {b : Byte} {s t : State} (h : execOraIzy b s = .next t) : BusSteps s t :=
  .readPattern (f := opOra) (fun _ _ => ⟨rfl, rfl, rfl⟩) h
theorem execEorImm_busSteps {v : Byte} {s t : State} (h : execEorImm v s = .next t) : BusSteps s t :=
  .readPattern (f := opEor) (fun _ _ => ⟨rfl, rfl, rfl⟩) h
theorem execEorZp_busSteps {b : Byte} {s t : State} (h : execEorZp b s = .next t) : BusSteps s t :=
  .readPattern (f := opEor) (fun _ _ => ⟨rfl, rfl, rfl⟩) h
theorem execEorZpx_busSteps {b : Byte} {s t : State} (h : execEorZpx b s = .next t) : BusSteps s t :=
  .readPattern (f := opEor) (fun _ _ => ⟨rfl, rfl, rfl⟩) h
theorem execEorAbs_busSteps {w : Addr} {s t : State} (h : execEorAbs w s = .next t) : BusSteps s t :=
  .readPattern (f := opEor) (fun _ _ => ⟨rfl, rfl, rfl⟩) h
theorem execEorAbsx_busSteps {w : Addr} {s t : State} (h : execEorAbsx w s = .next t) : BusSteps s t :=
  .readPattern (f := opEor) (fun _ _ => ⟨rfl, rfl, rfl⟩) h
theorem execEorAbsy_busSteps {w : Addr} {s t : State} (h : execEorAbsy w s = .next t) : BusSteps s t :=
  .readPattern (f := opEor) (fun _ _ => ⟨rfl, rfl, rfl⟩) h
theorem execEorIzx_busSteps {b : Byte} {s t : State} (h : execEorIzx b s = .next t) : BusSteps s t :=
  .readPattern (f := opEor) (fun _ _ => ⟨rfl, rfl, rfl⟩) h
theorem execEorIzy_busSteps {b : Byte} {s t : State} (h : execEorIzy b s = .next t) : BusSteps s t :=
  .readPattern (f := opEor) (fun _ _ => ⟨rfl, rfl, rfl⟩) h
theorem execBitZp_busSteps {b : Byte} {s t : State} (h : execBitZp b s = .next t) : BusSteps s t :=
  .readPattern (f := opBit) (fun _ _ => ⟨rfl, rfl, rfl⟩) h
theorem execBitAbs_busSteps {w : Addr} {s t : State} (h : execBitAbs w s = .next t) : BusSteps s t :=
  .readPattern (f := opBit) (fun _ _ => ⟨rfl, rfl, rfl⟩) h
theorem execAslAcc_busSteps {s t : State} (h : execAslAcc s = .next t) : BusSteps s t :=
  .rmw (opc := 0x0A) (f := stepAsl) (after := noFollowUp) (o := .acc) (fun _ _ => ⟨rfl, rfl, rfl⟩) (fun _ _ => ⟨rfl, rfl, rfl⟩) h
theorem execAslZp_busSteps {b : Byte} {s t : State} (h : execAslZp b s = .next t) : BusSteps s t :=
  .rmw (opc := 0x06) (f := stepAsl) (after := noFollowUp) (o := (.zp b)) (fun _ _ => ⟨rfl, rfl, rfl⟩) (fun _ _ => ⟨rfl, rfl, rfl⟩) h
theorem execAslZpx_busSteps {b : Byte} {s t : State} (h : execAslZpx b s = .next t) : BusSteps s t :=
  .rmw (opc := 0x16) (f := stepAsl) (after := noFollowUp) (o := (.zpx b)) (fun _ _ => ⟨rfl, rfl, rfl⟩) (fun _ _ => ⟨rfl, rfl, rfl⟩) h
theorem execAslAbs_busSteps {w : Addr} {s t : State} (h : execAslAbs w s = .next t) : BusSteps s t :=
  .rmw (opc := 0x0E) (f := stepAsl) (after := noFollowUp) (o := (.abs w)) (fun _ _ => ⟨rfl, rfl, rfl⟩) (fun _ _ => ⟨rfl, rfl, rfl⟩) h
theorem execAslAbsx_busSteps {w : Addr} {s t : State} (h : execAslAbsx w s = .next t) : BusSteps s t :=
  .rmw (opc := 0x1E) (f := stepAsl) (after := noFollowUp) (o := (.absx w)) (fun _ _ => ⟨rfl, rfl, rfl⟩) (fun _ _ => ⟨rfl, rfl, rfl⟩) h
theorem execLsrAcc_busSteps {s t : State} (h : execLsrAcc s = .next t) : BusSteps s t :=
  .rmw (opc := 0x4A) (f := stepLsr) (after := noFollowUp) (o := .acc) (fun _ _ => ⟨rfl, rfl, rfl⟩) (fun _ _ => ⟨rfl, rfl, rfl⟩) h
theorem execLsrZp_busSteps {b : Byte} {s t : State} (h : execLsrZp b s = .next t) : BusSteps s t :=
  .rmw (opc := 0x46) (f := stepLsr) (after := noFollowUp) (o := (.zp b)) (fun _ _ => ⟨rfl, rfl, rfl⟩) (fun _ _ => ⟨rfl, rfl, rfl⟩) h
theorem execLsrZpx_busSteps {b : Byte} {s t : State} (h : execLsrZpx b s = .next t) : BusSteps s t :=
  .rmw (opc := 0x56) (f := stepLsr) (after := noFollowUp) (o := (.zpx b)) (fun _ _ => ⟨rfl, rfl, rfl⟩) (fun _ _ => ⟨rfl, rfl, rfl⟩) h
theorem execLsrAbs_busSteps {w : Addr} {s t : State} (h : execLsrAbs w s = .next t) : BusSteps s t :=
  .rmw (opc := 0x4E) (f := stepLsr) (after := noFollowUp) (o := (.abs w)) (fun _ _ => ⟨rfl, rfl, rfl⟩) (fun _ _ => ⟨rfl, rfl, rfl⟩) h
theorem execLsrAbsx_busSteps {w : Addr} {s t : State} (h : execLsrAbsx w s = .next t) : BusSteps s t :=
  .rmw (opc := 0x5E) (f := stepLsr) (after := noFollowUp) (o := (.absx w)) (fun _ _ => ⟨rfl, rfl, rfl⟩) (fun _ _ => ⟨rfl, rfl, rfl⟩) h
theorem execRolAcc_busSteps {s t : State} (h : execRolAcc s = .next t) : BusSteps s t :=
  .rmw (opc := 0x2A) (f := stepRol) (after := noFollowUp) (o := .acc) (fun _ _ => ⟨rfl, rfl, rfl⟩) (fun _ _ => ⟨rfl, rfl, rfl⟩) h
theorem execRolZp_busSteps {b : Byte} {s t : State} (h : execRolZp b s = .next t) : BusSteps s t :=
  .rmw (opc := 0x26) (f := stepRol) (after := noFollowUp) (o := (.zp b)) (fun _ _ => ⟨rfl, rfl, rfl⟩) (fun _ _ => ⟨rfl, rfl, rfl⟩) h
theorem execRolZpx_busSteps {b : Byte} {s t : State} (h : execRolZpx b s = .next t) : BusSteps s t :=
  .rmw (opc := 0x36) (f := stepRol) (after := noFollowUp) (o := (.zpx b)) (fun _ _ => ⟨rfl, rfl, rfl⟩) (fun _ _ => ⟨rfl, rfl, rfl⟩) h
theorem execRolAbs_busSteps {w : Addr} {s t : State} (h : execRolAbs w s = .next t) : BusSteps s t :=
  .rmw (opc := 0x2E) (f := stepRol) (after := noFollowUp) (o := (.abs w)) (fun _ _ => ⟨rfl, rfl, rfl⟩) (fun _ _ => ⟨rfl, rfl, rfl⟩) h
theorem execRolAbsx_busSteps {w : Addr} {s t : State} (h : execRolAbsx w s = .next t) : BusSteps s t :=
  .rmw (opc := 0x3E) (f := stepRol) (after := noFollowUp) (o := (.absx w)) (fun _ _ => ⟨rfl, rfl, rfl⟩) (fun _ _ => ⟨rfl, rfl, rfl⟩) h
theorem execRorAcc_busSteps {s t : State} (h : execRorAcc s = .next t) : BusSteps s t :=
  .rmw (opc := 0x6A) (f := stepRor) (after := noFollowUp) (o := .acc) (fun _ _ => ⟨rfl, rfl, rfl⟩) (fun _ _ => ⟨rfl, rfl, rfl⟩) h
theorem execRorZp_busSteps {b : Byte} {s t : State} (h : execRorZp b s = .next t) : BusSteps s t :=
  .rmw (opc := 0x66) (f := stepRor) (after := noFollowUp) (o := (.zp b)) (fun _ _ => ⟨rfl, rfl, rfl⟩) (fun _ _ => ⟨rfl, rfl, rfl⟩) h
theorem execRorZpx_busSteps {b : Byte} {s t : State} (h : execRorZpx b s = .next t) : BusSteps s t :=
  .rmw (opc := 0x76) (f := stepRor) (after := noFollowUp) (o := (.zpx b)) (fun _ _ => ⟨rfl, rfl, rfl⟩) (fun _ _ => ⟨rfl, rfl, rfl⟩) h
theorem execRorAbs_busSteps {w : Addr} {s t : State} (h : execRorAbs w s = .next t) : BusSteps s t :=
  .rmw (opc := 0x6E) (f := stepRor) (after := noFollowUp) (o := (.abs w)) (fun _ _ => ⟨rfl, rfl, rfl⟩) (fun _ _ => ⟨rfl, rfl, rfl⟩) h
theorem execRorAbsx_busSteps {w : Addr} {s t : State} (h : execRorAbsx w s = .next t) : BusSteps s t :=
  .rmw (opc := 0x7E) (f := stepRor) (after := noFollowUp) (o := (.absx w)) (fun _ _ => ⟨rfl, rfl, rfl⟩) (fun _ _ => ⟨rfl, rfl, rfl⟩) h
theorem execCmpImm_busSteps {v : Byte} {s t : State} (h : execCmpImm v s = .next t) : BusSteps s t :=
  .readPattern (f := opCmp) (fun _ _ => ⟨rfl, rfl, rfl⟩) h
theorem execCmpZp_busSteps {b : Byte} {s t : State} (h : execCmpZp b s = .next t) : BusSteps s t :=
  .readPattern (f := opCmp) (fun _ _ => ⟨rfl, rfl, rfl⟩) h
theorem execCmpZpx_busSteps {b : Byte} {s t : State} (h : execCmpZpx b s = .next t) : BusSteps s t :=
  .readPattern (f := opCmp) (fun _ _ => ⟨rfl, rfl, rfl⟩) h
theorem execCmpAbs_busSteps {w : Addr} {s t : State} (h : execCmpAbs w s = .next t) : BusSteps s t :=
  .readPattern (f := opCmp) (fun _ _ => ⟨rfl, rfl, rfl⟩) h
theorem execCmpAbsx_busSteps {w : Addr} {s t : State} (h : execCmpAbsx w s = .next t) : BusSteps s t :=
  .readPattern (f := opCmp) (fun _ _ => ⟨rfl, rfl, rfl⟩) h
theorem execCmpAbsy_busSteps {w : Addr} {s t : State} (h : execCmpAbsy w s = .next t) : BusSteps s t :=
  .readPattern (f := opCmp) (fun _ _ => ⟨rfl, rfl, rfl⟩) h
theorem execCmpIzx_busSteps {b : Byte} {s t : State} (h : execCmpIzx b s = .next t) : BusSteps s t :=
  .readPattern (f := opCmp) (fun _ _ => ⟨rfl, rfl, rfl⟩) h
theorem execCmpIzy_busSteps {b : Byte} {s t : State} (h : execCmpIzy b s = .next t) : BusSteps s t :=
  .readPattern (f := opCmp) (fun _ _ => ⟨rfl, rfl, rfl⟩) h
theorem execCpxImm_busSteps {v : Byte} {s t : State} (h : execCpxImm v s = .next t) : BusSteps s t :=
  .readPattern (f := opCpx) (fun _ _ => ⟨rfl, rfl, rfl⟩) h
theorem execCpxZp_busSteps {b : Byte} {s t : State} (h : execCpxZp b s = .next t) : BusSteps s t :=
  .readPattern (f := opCpx) (fun _ _ => ⟨rfl, rfl, rfl⟩) h
theorem execCpxAbs_busSteps {w : Addr} {s t : State} (h : execCpxAbs w s = .next t) : BusSteps s t :=
  .readPattern (f := opCpx) (fun _ _ => ⟨rfl, rfl, rfl⟩) h
theorem execCpyImm_busSteps {v : Byte} {s t : State} (h : execCpyImm v s = .next t) : BusSteps s t :=
  .readPattern (f := opCpy) (fun _ _ => ⟨rfl, rfl, rfl⟩) h
theorem execCpyZp_busSteps {b : Byte} {s t : State} (h : execCpyZp b s = .next t) : BusSteps s t :=
  .readPattern (f := opCpy) (fun _ _ => ⟨rfl, rfl, rfl⟩) h
theorem execCpyAbs_busSteps {w : Addr} {s t : State} (h : execCpyAbs w s = .next t) : BusSteps s t :=
  .readPattern (f := opCpy) (fun _ _ => ⟨rfl, rfl, rfl⟩) h
theorem execIncZp_busSteps {b : Byte} {s t : State} (h : execIncZp b s = .next t) : BusSteps s t :=
  .rmw (opc := 0xE6) (f := stepInc) (after := noFollowUp) (o := (.zp b)) (fun _ _ => ⟨rfl, rfl, rfl⟩) (fun _ _ => ⟨rfl, rfl, rfl⟩) h
theorem execIncZpx_busSteps {b : Byte} {s t : State} (h : execIncZpx b s = .next t) : BusSteps s t :=
  .rmw (opc := 0xF6) (f := stepInc) (after := noFollowUp) (o := (.zpx b)) (fun _ _ => ⟨rfl, rfl, rfl⟩) (fun _ _ => ⟨rfl, rfl, rfl⟩) h
theorem execIncAbs_busSteps {w : Addr} {s t : State} (h : execIncAbs w s = .next t) : BusSteps s t :=
  .rmw (opc := 0xEE) (f := stepInc) (after := noFollowUp) (o := (.abs w)) (fun _ _ => ⟨rfl, rfl, rfl⟩) (fun _ _ => ⟨rfl, rfl, rfl⟩) h
theorem execIncAbsx_busSteps {w : Addr} {s t : State} (h : execIncAbsx w s = .next t) : BusSteps s t :=
  .rmw (opc := 0xFE) (f := stepInc) (after := noFollowUp) (o := (.absx w)) (fun _ _ => ⟨rfl, rfl, rfl⟩) (fun _ _ => ⟨rfl, rfl, rfl⟩) h
theorem execDecZp_busSteps {b : Byte} {s t : State} (h : execDecZp b s = .next t) : BusSteps s t :=
  .rmw (opc := 0xC6) (f := stepDec) (after := noFollowUp) (o := (.zp b)) (fun _ _ => ⟨rfl, rfl, rfl⟩) (fun _ _ => ⟨rfl, rfl, rfl⟩) h
theorem execDecZpx_busSteps {b : Byte} {s t : State} (h : execDecZpx b s = .next t) : BusSteps s t :=
  .rmw (opc := 0xD6) (f := stepDec) (after := noFollowUp) (o := (.zpx b)) (fun _ _ => ⟨rfl, rfl, rfl⟩) (fun _ _ => ⟨rfl, rfl, rfl⟩) h
theorem execDecAbs_busSteps {w : Addr} {s t : State} (h : execDecAbs w s = .next t) : BusSteps s t :=
  .rmw (opc := 0xCE) (f := stepDec) (after := noFollowUp) (o := (.abs w)) (fun _ _ => ⟨rfl, rfl, rfl⟩) (fun _ _ => ⟨rfl, rfl, rfl⟩) h
theorem execDecAbsx_busSteps {w : Addr} {s t : State} (h : execDecAbsx w s = .next t) : BusSteps s t :=
  .rmw (opc := 0xDE) (f := stepDec) (after := noFollowUp) (o := (.absx w)) (fun _ _ => ⟨rfl, rfl, rfl⟩) (fun _ _ => ⟨rfl, rfl, rfl⟩) h
theorem execInx_busSteps {s t : State} (h : execInx s = .next t) : BusSteps s t :=
  .implied (f := opInx) (.regs (.refl s) rfl rfl rfl) h
theorem execIny_busSteps {s t : State} (h : execIny s = .next t) : BusSteps s t :=
  .implied (f := opIny) (.regs (.refl s) rfl rfl rfl) h
theorem execDex_busSteps {s t : State} (h : execDex s = .next t) : BusSteps s t :=
  .implied (f := opDex) (.regs (.refl s) rfl rfl rfl) h
theorem execDey_busSteps {s t : State} (h : execDey s = .next t) : BusSteps s t :=
  .implied (f := opDey) (.regs (.refl s) rfl rfl rfl) h
theorem execBcc_busSteps {o : Byte} {s t : State} (h : execBcc o s = .next t) : BusSteps s t :=
  .branch h
theorem execBcs_busSteps {o : Byte} {s t : State} (h : execBcs o s = .next t) : BusSteps s t :=
  .branch h
theorem execBeq_busSteps {o : Byte} {s t : State} (h : execBeq o s = .next t) : BusSteps s t :=
  .branch h
theorem execBne_busSteps {o : Byte} {s t : State} (h : execBne o s = .next t) : BusSteps s t :=
  .branch h
theorem execBmi_busSteps {o : Byte} {s t : State} (h : execBmi o s = .next t) : BusSteps s t :=
  .branch h
theorem execBpl_busSteps {o : Byte} {s t : State} (h : execBpl o s = .next t) : BusSteps s t :=
  .branch h
theorem execBvc_busSteps {o : Byte} {s t : State} (h : execBvc o s = .next t) : BusSteps s t :=
  .branch h
theorem execBvs_busSteps {o : Byte} {s t : State} (h : execBvs o s = .next t) : BusSteps s t :=
  .branch h
theorem execPha_busSteps {s t : State} (h : execPha s = .next t) : BusSteps s t :=
  .implied (f := opPha) (.push _ (.refl s)) h
theorem execPhp_busSteps {s t : State} (h : execPhp s = .next t) : BusSteps s t :=
  .implied (f := opPhp) (.push _ (.refl s)) h
theorem execPla_busSteps {s t : State} (h : execPla s = .next t) : BusSteps s t :=
  .implied (f := opPla) (.regs (.pull (.refl s)) rfl rfl rfl) h
theorem execPlp_busSteps {s t : State} (h : execPlp s = .next t) : BusSteps s t :=
  .implied (f := opPlp) (.regs (.pull (.refl s)) rfl rfl rfl) h
theorem execJsrAbs_busSteps {w : Addr} {s t : State} (h : execJsrAbs w s = .next t) : BusSteps s t :=
  .jsr h
theorem execRts_busSteps {s t : State} (h : execRts s = .next t) : BusSteps s t :=
  .implied (f := opRts) (.rts s) h
theorem execRti_busSteps {s t : State} (h : execRti s = .next t) : BusSteps s t :=
  .implied (f := returnFromTrap) (.returnFromTrap s) h
theorem execBrk_busSteps {s t : State} (h : execBrk s = .next t) : BusSteps s t :=
  .implied (f := takeTrap) (.takeTrap s) h
theorem execJmpAbs_busSteps {w : Addr} {s t : State} (h : execJmpAbs w s = .next t) : BusSteps s t :=
  .jmp h
theorem execJmpInd_busSteps {w : Addr} {s t : State} (h : execJmpInd w s = .next t) : BusSteps s t :=
  .jmp h
theorem execTax_busSteps {s t : State} (h : execTax s = .next t) : BusSteps s t :=
  .implied (f := opTax) (.regs (.refl s) rfl rfl rfl) h
theorem execTay_busSteps {s t : State} (h : execTay s = .next t) : BusSteps s t :=
  .implied (f := opTay) (.regs (.refl s) rfl rfl rfl) h
theorem execTxa_busSteps {s t : State} (h : execTxa s = .next t) : BusSteps s t :=
  .implied (f := opTxa) (.regs (.refl s) rfl rfl rfl) h
theorem execTya_busSteps {s t : State} (h : execTya s = .next t) : BusSteps s t :=
  .implied (f := opTya) (.regs (.refl s) rfl rfl rfl) h
theorem execTsx_busSteps {s t : State} (h : execTsx s = .next t) : BusSteps s t :=
  .implied (f := opTsx) (.regs (.refl s) rfl rfl rfl) h
theorem execTxs_busSteps {s t : State} (h : execTxs s = .next t) : BusSteps s t :=
  .implied (f := opTxs) (.regs (.refl s) rfl rfl rfl) h
theorem execLdaImm_busSteps {v : Byte} {s t : State} (h : execLdaImm v s = .next t) : BusSteps s t :=
  .readPattern (f := opLda) (fun _ _ => ⟨rfl, rfl, rfl⟩) h
theorem execLdaZp_busSteps {b : Byte} {s t : State} (h : execLdaZp b s = .next t) : BusSteps s t :=
  .readPattern (f := opLda) (fun _ _ => ⟨rfl, rfl, rfl⟩) h
theorem execLdaZpx_busSteps {b : Byte} {s t : State} (h : execLdaZpx b s = .next t) : BusSteps s t :=
  .readPattern (f := opLda) (fun _ _ => ⟨rfl, rfl, rfl⟩) h
theorem execLdaAbs_busSteps {w : Addr} {s t : State} (h : execLdaAbs w s = .next t) : BusSteps s t :=
  .readPattern (f := opLda) (fun _ _ => ⟨rfl, rfl, rfl⟩) h
theorem execLdaAbsx_busSteps {w : Addr} {s t : State} (h : execLdaAbsx w s = .next t) : BusSteps s t :=
  .readPattern (f := opLda) (fun _ _ => ⟨rfl, rfl, rfl⟩) h
theorem execLdaAbsy_busSteps {w : Addr} {s t : State} (h : execLdaAbsy w s = .next t) : BusSteps s t :=
  .readPattern (f := opLda) (fun _ _ => ⟨rfl, rfl, rfl⟩) h
theorem execLdaIzx_busSteps {b : Byte} {s t : State} (h : execLdaIzx b s = .next t) : BusSteps s t :=
  .readPattern (f := opLda) (fun _ _ => ⟨rfl, rfl, rfl⟩) h
theorem execLdaIzy_busSteps {b : Byte} {s t : State} (h : execLdaIzy b s = .next t) : BusSteps s t :=
  .readPattern (f := opLda) (fun _ _ => ⟨rfl, rfl, rfl⟩) h
theorem execLdxImm_busSteps {v : Byte} {s t : State} (h : execLdxImm v s = .next t) : BusSteps s t :=
  .readPattern (f := opLdx) (fun _ _ => ⟨rfl, rfl, rfl⟩) h
theorem execLdxZp_busSteps {b : Byte} {s t : State} (h : execLdxZp b s = .next t) : BusSteps s t :=
  .readPattern (f := opLdx) (fun _ _ => ⟨rfl, rfl, rfl⟩) h
theorem execLdxZpy_busSteps {b : Byte} {s t : State} (h : execLdxZpy b s = .next t) : BusSteps s t :=
  .readPattern (f := opLdx) (fun _ _ => ⟨rfl, rfl, rfl⟩) h
theorem execLdxAbs_busSteps {w : Addr} {s t : State} (h : execLdxAbs w s = .next t) : BusSteps s t :=
  .readPattern (f := opLdx) (fun _ _ => ⟨rfl, rfl, rfl⟩) h
theorem execLdxAbsy_busSteps {w : Addr} {s t : State} (h : execLdxAbsy w s = .next t) : BusSteps s t :=
  .readPattern (f := opLdx) (fun _ _ => ⟨rfl, rfl, rfl⟩) h
theorem execLdyImm_busSteps {v : Byte} {s t : State} (h : execLdyImm v s = .next t) : BusSteps s t :=
  .readPattern (f := opLdy) (fun _ _ => ⟨rfl, rfl, rfl⟩) h
theorem execLdyZp_busSteps {b : Byte} {s t : State} (h : execLdyZp b s = .next t) : BusSteps s t :=
  .readPattern (f := opLdy) (fun _ _ => ⟨rfl, rfl, rfl⟩) h
theorem execLdyZpx_busSteps {b : Byte} {s t : State} (h : execLdyZpx b s = .next t) : BusSteps s t :=
  .readPattern (f := opLdy) (fun _ _ => ⟨rfl, rfl, rfl⟩) h
theorem execLdyAbs_busSteps {w : Addr} {s t : State} (h : execLdyAbs w s = .next t) : BusSteps s t :=
  .readPattern (f := opLdy) (fun _ _ => ⟨rfl, rfl, rfl⟩) h
theorem execLdyAbsx_busSteps {w : Addr} {s t : State} (h : execLdyAbsx w s = .next t) : BusSteps s t :=
  .readPattern (f := opLdy) (fun _ _ => ⟨rfl, rfl, rfl⟩) h
theorem execStaZp_busSteps {b : Byte} {s t : State} (h : execStaZp b s = .next t) : BusSteps s t :=
  .store h
theorem execStaZpx_busSteps {b : Byte} {s t : State} (h : execStaZpx b s = .next t) : BusSteps s t :=
  .store h
theorem execStaAbs_busSteps {w : Addr} {s t : State} (h : execStaAbs w s = .next t) : BusSteps s t :=
  .store h
theorem execStaAbsx_busSteps {w : Addr} {s t : State} (h : execStaAbsx w s = .next t) : BusSteps s t :=
  .store h
theorem execStaAbsy_busSteps {w : Addr} {s t : State} (h : execStaAbsy w s = .next t) : BusSteps s t :=
  .store h
theorem execStaIzx_busSteps {b : Byte} {s t : State} (h : execStaIzx b s = .next t) : BusSteps s t :=
  .store h
theorem execStaIzy_busSteps {b : Byte} {s t : State} (h : execStaIzy b s = .next t) : BusSteps s t :=
  .store h
theorem execStxZp_busSteps {b : Byte} {s t : State} (h : execStxZp b s = .next t) : BusSteps s t :=
  .store h
theorem execStxZpy_busSteps {b : Byte} {s t : State} (h : execStxZpy b s = .next t) : BusSteps s t :=
  .store h
theorem execStxAbs_busSteps {w : Addr} {s t : State} (h : execStxAbs w s = .next t) : BusSteps s t :=
  .store h
theorem execStyZp_busSteps {b : Byte} {s t : State} (h : execStyZp b s = .next t) : BusSteps s t :=
  .store h
theorem execStyZpx_busSteps {b : Byte} {s t : State} (h : execStyZpx b s = .next t) : BusSteps s t :=
  .store h
theorem execStyAbs_busSteps {w : Addr} {s t : State} (h : execStyAbs w s = .next t) : BusSteps s t :=
  .store h
theorem execClc_busSteps {s t : State} (h : execClc s = .next t) : BusSteps s t :=
  .implied (f := opClc) (.regs (.refl s) rfl rfl rfl) h
theorem execSec_busSteps {s t : State} (h : execSec s = .next t) : BusSteps s t :=
  .implied (f := opSec) (.regs (.refl s) rfl rfl rfl) h
theorem execCli_busSteps {s t : State} (h : execCli s = .next t) : BusSteps s t :=
  .implied (f := opCli) (.regs (.refl s) rfl rfl rfl) h
theorem execSei_busSteps {s t : State} (h : execSei s = .next t) : BusSteps s t :=
  .implied (f := opSei) (.regs (.refl s) rfl rfl rfl) h
theorem execCld_busSteps {s t : State} (h : execCld s = .next t) : BusSteps s t :=
  .implied (f := opCld) (.regs (.refl s) rfl rfl rfl) h
theorem execSed_busSteps {s t : State} (h : execSed s = .next t) : BusSteps s t :=
  .implied (f := opSed) (.regs (.refl s) rfl rfl rfl) h
theorem execClv_busSteps {s t : State} (h : execClv s = .next t) : BusSteps s t :=
  .implied (f := opClv) (.regs (.refl s) rfl rfl rfl) h
theorem execNopImp1A_busSteps {s t : State} (h : execNopImp1A s = .next t) : BusSteps s t :=
  .nop h
theorem execNopImp3A_busSteps {s t : State} (h : execNopImp3A s = .next t) : BusSteps s t :=
  .nop h
theorem execNopImp5A_busSteps {s t : State} (h : execNopImp5A s = .next t) : BusSteps s t :=
  .nop h
theorem execNopImp7A_busSteps {s t : State} (h : execNopImp7A s = .next t) : BusSteps s t :=
  .nop h
theorem execNopImpDA_busSteps {s t : State} (h : execNopImpDA s = .next t) : BusSteps s t :=
  .nop h
theorem execNopImpEA_busSteps {s t : State} (h : execNopImpEA s = .next t) : BusSteps s t :=
  .nop h
theorem execNopImpFA_busSteps {s t : State} (h : execNopImpFA s = .next t) : BusSteps s t :=
  .nop h
theorem execNopImm80_busSteps {v : Byte} {s t : State} (h : execNopImm80 v s = .next t) : BusSteps s t :=
  .nop h
theorem execNopImm82_busSteps {v : Byte} {s t : State} (h : execNopImm82 v s = .next t) : BusSteps s t :=
  .nop h
theorem execNopImm89_busSteps {v : Byte} {s t : State} (h : execNopImm89 v s = .next t) : BusSteps s t :=
  .nop h
theorem execNopImmC2_busSteps {v : Byte} {s t : State} (h : execNopImmC2 v s = .next t) : BusSteps s t :=
  .nop h
theorem execNopImmE2_busSteps {v : Byte} {s t : State} (h : execNopImmE2 v s = .next t) : BusSteps s t :=
  .nop h
theorem execNopZp04_busSteps {b : Byte} {s t : State} (h : execNopZp04 b s = .next t) : BusSteps s t :=
  .nop h
theorem execNopZp44_busSteps {b : Byte} {s t : State} (h : execNopZp44 b s = .next t) : BusSteps s t :=
  .nop h
theorem execNopZp64_busSteps {b : Byte} {s t : State} (h : execNopZp64 b s = .next t) : BusSteps s t :=
  .nop h
theorem execNopZpx14_busSteps {b : Byte} {s t : State} (h : execNopZpx14 b s = .next t) : BusSteps s t :=
  .nop h
theorem execNopZpx34_busSteps {b : Byte} {s t : State} (h : execNopZpx34 b s = .next t) : BusSteps s t :=
  .nop h
theorem execNopZpx54_busSteps {b : Byte} {s t : State} (h : execNopZpx54 b s = .next t) : BusSteps s t :=
  .nop h
theorem execNopZpx74_busSteps {b : Byte} {s t : State} (h : execNopZpx74 b s = .next t) : BusSteps s t :=
  .nop h
theorem execNopZpxD4_busSteps {b : Byte} {s t : State} (h : execNopZpxD4 b s = .next t) : BusSteps s t :=
  .nop h
theorem execNopZpxF4_busSteps {b : Byte} {s t : State} (h : execNopZpxF4 b s = .next t) : BusSteps s t :=
  .nop h
theorem execNopAbs0C_busSteps {w : Addr} {s t : State} (h : execNopAbs0C w s = .next t) : BusSteps s t :=
  .nop h
theorem execNopAbsx1C_busSteps {w : Addr} {s t : State} (h : execNopAbsx1C w s = .next t) : BusSteps s t :=
  .nop h
theorem execNopAbsx3C_busSteps {w : Addr} {s t : State} (h : execNopAbsx3C w s = .next t) : BusSteps s t :=
  .nop h
theorem execNopAbsx5C_busSteps {w : Addr} {s t : State} (h : execNopAbsx5C w s = .next t) : BusSteps s t :=
  .nop h
theorem execNopAbsx7C_busSteps {w : Addr} {s t : State} (h : execNopAbsx7C w s = .next t) : BusSteps s t :=
  .nop h
theorem execNopAbsxDC_busSteps {w : Addr} {s t : State} (h : execNopAbsxDC w s = .next t) : BusSteps s t :=
  .nop h
theorem execNopAbsxFC_busSteps {w : Addr} {s t : State} (h : execNopAbsxFC w s = .next t) : BusSteps s t :=
  .nop h
theorem execAlrImm_busSteps {v : Byte} {s t : State} (h : execAlrImm v s = .next t) : BusSteps s t :=
  .readPattern (f := opAlr) (fun _ _ => ⟨rfl, rfl, rfl⟩) h
theorem execAncImm0B_busSteps {v : Byte} {s t : State} (h : execAncImm0B v s = .next t) : BusSteps s t :=
  .readPattern (f := opAnc) (fun _ _ => ⟨rfl, rfl, rfl⟩) h
theorem execAncImm2B_busSteps {v : Byte} {s t : State} (h : execAncImm2B v s = .next t) : BusSteps s t :=
  .readPattern (f := opAnc) (fun _ _ => ⟨rfl, rfl, rfl⟩) h
theorem execArrImm_busSteps {v : Byte} {s t : State} (h : execArrImm v s = .next t) : BusSteps s t :=
  .readPattern (f := opArr) (fun _ _ => ⟨rfl, rfl, rfl⟩) h
theorem execDcpZp_busSteps {b : Byte} {s t : State} (h : execDcpZp b s = .next t) : BusSteps s t :=
  .rmw (opc := 0xC7) (f := stepDec) (after := opCmp) (o := (.zp b)) (fun _ _ => ⟨rfl, rfl, rfl⟩) (fun _ _ => ⟨rfl, rfl, rfl⟩) h
theorem execDcpZpx_busSteps {b : Byte} {s t : State} (h : execDcpZpx b s = .next t) : BusSteps s t :=
  .rmw (opc := 0xD7) (f := stepDec) (after := opCmp) (o := (.zpx b)) (fun _ _ => ⟨rfl, rfl, rfl⟩) (fun _ _ => ⟨rfl, rfl, rfl⟩) h
theorem execDcpAbs_busSteps {w : Addr} {s t : State} (h : execDcpAbs w s = .next t) : BusSteps s t :=
  .rmw (opc := 0xCF) (f := stepDec) (after := opCmp) (o := (.abs w)) (fun _ _ => ⟨rfl, rfl, rfl⟩) (fun _ _ => ⟨rfl, rfl, rfl⟩) h
theorem execDcpAbsx_busSteps {w : Addr} {s t : State} (h : execDcpAbsx w s = .next t) : BusSteps s t :=
  .rmw (opc := 0xDF) (f := stepDec) (after := opCmp) (o := (.absx w)) (fun _ _ => ⟨rfl, rfl, rfl⟩) (fun _ _ => ⟨rfl, rfl, rfl⟩) h
theorem execDcpAbsy_busSteps {w : Addr} {s t : State} (h : execDcpAbsy w s = .next t) : BusSteps s t :=
  .rmw (opc := 0xDB) (f := stepDec) (after := opCmp) (o := (.absy w)) (fun _ _ => ⟨rfl, rfl, rfl⟩) (fun _ _ => ⟨rfl, rfl, rfl⟩) h
theorem execDcpIzx_busSteps {b : Byte} {s t : State} (h : execDcpIzx b s = .next t) : BusSteps s t :=
  .rmw (opc := 0xC3) (f := stepDec) (after := opCmp) (o := (.izx b)) (fun _ _ => ⟨rfl, rfl, rfl⟩) (fun _ _ => ⟨rfl, rfl, rfl⟩) h
theorem execDcpIzy_busSteps {b : Byte} {s t : State} (h : execDcpIzy b s = .next t) : BusSteps s t :=
  .rmw (opc := 0xD3) (f := stepDec) (after := opCmp) (o := (.izy b)) (fun _ _ => ⟨rfl, rfl, rfl⟩) (fun _ _ => ⟨rfl, rfl, rfl⟩) h
theorem execIscZp_busSteps {b : Byte} {s t : State} (h : execIscZp b s = .next t) : BusSteps s t :=
  .rmw (opc := 0xE7) (f := stepInc) (after := opSbc) (o := (.zp b)) (fun _ _ => ⟨rfl, rfl, rfl⟩) (fun _ _ => ⟨rfl, rfl, rfl⟩) h
theorem execIscZpx_busSteps {b : Byte} {s t : State} (h : execIscZpx b s = .next t) : BusSteps s t :=
  .rmw (opc := 0xF7) (f := stepInc) (after := opSbc) (o := (.zpx b)) (fun _ _ => ⟨rfl, rfl, rfl⟩) (fun _ _ => ⟨rfl, rfl, rfl⟩) h
theorem execIscAbs_busSteps {w : Addr} {s t : State} (h : execIscAbs w s = .next t) : BusSteps s t :=
  .rmw (opc := 0xEF) (f := stepInc) (after := opSbc) (o := (.abs w)) (fun _ _ => ⟨rfl, rfl, rfl⟩) (fun _ _ => ⟨rfl, rfl, rfl⟩) h
theorem execIscAbsx_busSteps {w : Addr} {s t : State} (h : execIscAbsx w s = .next t) : BusSteps s t :=
  .rmw (opc := 0xFF) (f := stepInc) (after := opSbc) (o := (.absx w)) (fun _ _ => ⟨rfl, rfl, rfl⟩) (fun _ _ => ⟨rfl, rfl, rfl⟩) h
theorem execIscAbsy_busSteps {w : Addr} {s t : State} (h : execIscAbsy w s = .next t) : BusSteps s t :=
  .rmw (opc := 0xFB) (f := stepInc) (after := opSbc) (o := (.absy w)) (fun _ _ => ⟨rfl, rfl, rfl⟩) (fun _ _ => ⟨rfl, rfl, rfl⟩) h
theorem execIscIzx_busSteps {b : Byte} {s t : State} (h : execIscIzx b s = .next t) : BusSteps s t :=
  .rmw (opc := 0xE3) (f := stepInc) (after := opSbc) (o := (.izx b)) (fun _ _ => ⟨rfl, rfl, rfl⟩) (fun _ _ => ⟨rfl, rfl, rfl⟩) h
theorem execIscIzy_busSteps {b : Byte} {s t : State} (h : execIscIzy b s = .next t) : BusSteps s t :=
  .rmw (opc := 0xF3) (f := stepInc) (after := opSbc) (o := (.izy b)) (fun _ _ => ⟨rfl, rfl, rfl⟩) (fun _ _ => ⟨rfl, rfl, rfl⟩) h
theorem execLasAbsy_busSteps {w : Addr} {s t : State} (h : execLasAbsy w s = .next t) : BusSteps s t :=
  .readPattern (f := opLas) (fun _ _ => ⟨rfl, rfl, rfl⟩) h
theorem execLaxZp_busSteps {b : Byte} {s t : State} (h : execLaxZp b s = .next t) : BusSteps s t :=
  .readPattern (f := opLax) (fun _ _ => ⟨rfl, rfl, rfl⟩) h
theorem execLaxZpy_busSteps {b : Byte} {s t : State} (h : execLaxZpy b s = .next t) : BusSteps s t :=
  .readPattern (f := opLax) (fun _ _ => ⟨rfl, rfl, rfl⟩) h
theorem execLaxAbs_busSteps {w : Addr} {s t : State} (h : execLaxAbs w s = .next t) : BusSteps s t :=
  .readPattern (f := opLax) (fun _ _ => ⟨rfl, rfl, rfl⟩) h
theorem execLaxAbsy_busSteps {w : Addr} {s t : State} (h : execLaxAbsy w s = .next t) : BusSteps s t :=
  .readPattern (f := opLax) (fun _ _ => ⟨rfl, rfl, rfl⟩) h
theorem execLaxIzx_busSteps {b : Byte} {s t : State} (h : execLaxIzx b s = .next t) : BusSteps s t :=
  .readPattern (f := opLax) (fun _ _ => ⟨rfl, rfl, rfl⟩) h
theorem execLaxIzy_busSteps {b : Byte} {s t : State} (h : execLaxIzy b s = .next t) : BusSteps s t :=
  .readPattern (f := opLax) (fun _ _ => ⟨rfl, rfl, rfl⟩) h
theorem execLxaImm_busSteps {v : Byte} {s t : State} (h : execLxaImm v s = .next t) : BusSteps s t :=
  .readPattern (f := opLxa) (fun _ _ => ⟨rfl, rfl, rfl⟩) h
theorem execRlaZp_busSteps {b : Byte} {s t : State} (h : execRlaZp b s = .next t) : BusSteps s t :=
  .rmw (opc := 0x27) (f := stepRol) (after := opAnd) (o := (.zp b)) (fun _ _ => ⟨rfl, rfl, rfl⟩) (fun _ _ => ⟨rfl, rfl, rfl⟩) h
theorem execRlaZpx_busSteps {b : Byte} {s t : State} (h : execRlaZpx b s = .next t) : BusSteps s t :=
  .rmw (opc := 0x37) (f := stepRol) (after := opAnd) (o := (.zpx b)) (fun _ _ => ⟨rfl, rfl, rfl⟩) (fun _ _ => ⟨rfl, rfl, rfl⟩) h
theorem execRlaAbs_busSteps {w : Addr} {s t : State} (h : execRlaAbs w s = .next t) : BusSteps s t :=
  .rmw (opc := 0x2F) (f := stepRol) (after := opAnd) (o := (.abs w)) (fun _ _ => ⟨rfl, rfl, rfl⟩) (fun _ _ => ⟨rfl, rfl, rfl⟩) h
theorem execRlaAbsx_busSteps {w : Addr} {s t : State} (h : execRlaAbsx w s = .next t) : BusSteps s t :=
  .rmw (opc := 0x3F) (f := stepRol) (after := opAnd) (o := (.absx w)) (fun _ _ => ⟨rfl, rfl, rfl⟩) (fun _ _ => ⟨rfl, rfl, rfl⟩) h
theorem execRlaAbsy_busSteps {w : Addr} {s t : State} (h : execRlaAbsy w s = .next t) : BusSteps s t :=
  .rmw (opc := 0x3B) (f := stepRol) (after := opAnd) (o := (.absy w)) (fun _ _ => ⟨rfl, rfl, rfl⟩) (fun _ _ => ⟨rfl, rfl, rfl⟩) h
theorem execRlaIzx_busSteps {b : Byte} {s t : State} (h : execRlaIzx b s = .next t) : BusSteps s t :=
  .rmw (opc := 0x23) (f := stepRol) (after := opAnd) (o := (.izx b)) (fun _ _ => ⟨rfl, rfl, rfl⟩) (fun _ _ => ⟨rfl, rfl, rfl⟩) h
theorem execRlaIzy_busSteps {b : Byte} {s t : State} (h : execRlaIzy b s = .next t) : BusSteps s t :=
  .rmw (opc := 0x33) (f := stepRol) (after := opAnd) (o := (.izy b)) (fun _ _ => ⟨rfl, rfl, rfl⟩) (fun _ _ => ⟨rfl, rfl, rfl⟩) h
theorem execRraZp_busSteps {b : Byte} {s t : State} (h : execRraZp b s = .next t) : BusSteps s t :=
  .rmw (opc := 0x67) (f := stepRor) (after := addCore) (o := (.zp b)) (fun _ _ => ⟨rfl, rfl, rfl⟩) (fun _ _ => ⟨rfl, rfl, rfl⟩) h
theorem execRraZpx_busSteps {b : Byte} {s t : State} (h : execRraZpx b s = .next t) : BusSteps s t :=
  .rmw (opc := 0x77) (f := stepRor) (after := addCore) (o := (.zpx b)) (fun _ _ => ⟨rfl, rfl, rfl⟩) (fun _ _ => ⟨rfl, rfl, rfl⟩) h
theorem execRraAbs_busSteps {w : Addr} {s t : State} (h : execRraAbs w s = .next t) : BusSteps s t :=
  .rmw (opc := 0x6F) (f := stepRor) (after := addCore) (o := (.abs w)) (fun _ _ => ⟨rfl, rfl, rfl⟩) (fun _ _ => ⟨rfl, rfl, rfl⟩) h
theorem execRraAbsx_busSteps {w : Addr} {s t : State} (h : execRraAbsx w s = .next t) : BusSteps s t :=
  .rmw (opc := 0x7F) (f := stepRor) (after := addCore) (o := (.absx w)) (fun _ _ => ⟨rfl, rfl, rfl⟩) (fun _ _ => ⟨rfl, rfl, rfl⟩) h
theorem execRraAbsy_busSteps {w : Addr} {s t : State} (h : execRraAbsy w s = .next t) : BusSteps s t :=
  .rmw (opc := 0x7B) (f := stepRor) (after := addCore) (o := (.absy w)) (fun _ _ => ⟨rfl, rfl, rfl⟩) (fun _ _ => ⟨rfl, rfl, rfl⟩) h
theorem execRraIzx_busSteps {b : Byte} {s t : State} (h : execRraIzx b s = .next t) : BusSteps s t :=
  .rmw (opc := 0x63) (f := stepRor) (after := addCore) (o := (.izx b)) (fun _ _ => ⟨rfl, rfl, rfl⟩) (fun _ _ => ⟨rfl, rfl, rfl⟩) h
theorem execRraIzy_busSteps {b : Byte} {s t : State} (h : execRraIzy b s = .next t) : BusSteps s t :=
  .rmw (opc := 0x73) (f := stepRor) (after := addCore) (o := (.izy b)) (fun _ _ => ⟨rfl, rfl, rfl⟩) (fun _ _ => ⟨rfl, rfl, rfl⟩) h
theorem execSaxZp_busSteps {b : Byte} {s t : State} (h : execSaxZp b s = .next t) : BusSteps s t :=
  .store h
theorem execSaxZpy_busSteps {b : Byte} {s t : State} (h : execSaxZpy b s = .next t) : BusSteps s t :=
  .store h
theorem execSaxAbs_busSteps {w : Addr} {s t : State} (h : execSaxAbs w s = .next t) : BusSteps s t :=
  .store h
theorem execSaxIzx_busSteps {b : Byte} {s t : State} (h : execSaxIzx b s = .next t) : BusSteps s t :=
  .store h
theorem execSbxImm_busSteps {v : Byte} {s t : State} (h : execSbxImm v s = .next t) : BusSteps s t :=
  .readPattern (f := opSbx) (fun _ _ => ⟨rfl, rfl, rfl⟩) h
theorem execShaAbsy_busSteps {w : Addr} {s t : State} (h : execShaAbsy w s = .next t) : BusSteps s t :=
  .shx (first := keepSp) (fun _ => ⟨rfl, rfl, rfl⟩) h
theorem execShaIzy_busSteps {b : Byte} {s t : State} (h : execShaIzy b s = .next t) : BusSteps s t :=
  .shx (first := keepSp) (fun _ => ⟨rfl, rfl, rfl⟩) h
theorem execShxAbsy_busSteps {w : Addr} {s t : State} (h : execShxAbsy w s = .next t) : BusSteps s t :=
  .shx (first := keepSp) (fun _ => ⟨rfl, rfl, rfl⟩) h
theorem execShyAbsx_busSteps {w : Addr} {s t : State} (h : execShyAbsx w s = .next t) : BusSteps s t :=
  .shx (first := keepSp) (fun _ => ⟨rfl, rfl, rfl⟩) h
theorem execSloZp_busSteps {b : Byte} {s t : State} (h : execSloZp b s = .next t) : BusSteps s t :=
  .rmw (opc := 0x07) (f := stepAsl) (after := opOra) (o := (.zp b)) (fun _ _ => ⟨rfl, rfl, rfl⟩) (fun _ _ => ⟨rfl, rfl, rfl⟩) h
theorem execSloZpx_busSteps {b : Byte} {s t : State} (h : execSloZpx b s = .next t) : BusSteps s t :=
  .rmw (opc := 0x17) (f := stepAsl) (after := opOra) (o := (.zpx b)) (fun _ _ => ⟨rfl, rfl, rfl⟩) (fun _ _ => ⟨rfl, rfl, rfl⟩) h
theorem execSloAbs_busSteps {w : Addr} {s t : State} (h : execSloAbs w s = .next t) : BusSteps s t :=
  .rmw (opc := 0x0F) (f := stepAsl) (after := opOra) (o := (.abs w)) (fun _ _ => ⟨rfl, rfl, rfl⟩) (fun _ _ => ⟨rfl, rfl, rfl⟩) h
theorem execSloAbsx_busSteps {w : Addr} {s t : State} (h : execSloAbsx w s = .next t) : BusSteps s t :=
  .rmw (opc := 0x1F) (f := stepAsl) (after := opOra) (o := (.absx w)) (fun _ _ => ⟨rfl, rfl, rfl⟩) (fun _ _ => ⟨rfl, rfl, rfl⟩) h
theorem execSloAbsy_busSteps {w : Addr} {s t : State} (h : execSloAbsy w s = .next t) : BusSteps s t :=
  .rmw (opc := 0x1B) (f := stepAsl) (after := opOra) (o := (.absy w)) (fun _ _ => ⟨rfl, rfl, rfl⟩) (fun _ _ => ⟨rfl, rfl, rfl⟩) h
theorem execSloIzx_busSteps {b : Byte} {s t : State} (h : execSloIzx b s = .next t) : BusSteps s t :=
  .rmw (opc := 0x03) (f := stepAsl) (after := opOra) (o := (.izx b)) (fun _ _ => ⟨rfl, rfl, rfl⟩) (fun _ _ => ⟨rfl, rfl, rfl⟩) h
theorem execSloIzy_busSteps {b : Byte} {s t : State} (h : execSloIzy b s = .next t) : BusSteps s t :=
  .rmw (opc := 0x13) (f := stepAsl) (after := opOra) (o := (.izy b)) (fun _ _ => ⟨rfl, rfl, rfl⟩) (fun _ _ => ⟨rfl, rfl, rfl⟩) h
theorem execSreZp_busSteps {b : Byte} {s t : State} (h : execSreZp b s = .next t) : BusSteps s t :=
  .rmw (opc := 0x47) (f := stepLsr) (after := opEor) (o := (.zp b)) (fun _ _ => ⟨rfl, rfl, rfl⟩) (fun _ _ => ⟨rfl, rfl, rfl⟩) h
theorem execSreZpx_busSteps {b : Byte} {s t : State} (h : execSreZpx b s = .next t) : BusSteps s t :=
  .rmw (opc := 0x57) (f := stepLsr) (after := opEor) (o := (.zpx b)) (fun _ _ => ⟨rfl, rfl, rfl⟩) (fun _ _ => ⟨rfl, rfl, rfl⟩) h
theorem execSreAbs_busSteps {w : Addr} {s t : State} (h : execSreAbs w s = .next t) : BusSteps s t :=
  .rmw (opc := 0x4F) (f := stepLsr) (after := opEor) (o := (.abs w)) (fun _ _ => ⟨rfl, rfl, rfl⟩) (fun _ _ => ⟨rfl, rfl, rfl⟩) h
theorem execSreAbsx_busSteps {w : Addr} {s t : State} (h : execSreAbsx w s = .next t) : BusSteps s t :=
  .rmw (opc := 0x5F) (f := stepLsr) (after := opEor) (o := (.absx w)) (fun _ _ => ⟨rfl, rfl, rfl⟩) (fun _ _ => ⟨rfl, rfl, rfl⟩) h
theorem execSreAbsy_busSteps {w : Addr} {s t : State} (h : execSreAbsy w s = .next t) : BusSteps s t :=
  .rmw (opc := 0x5B) (f := stepLsr) (after := opEor) (o := (.absy w)) (fun _ _ => ⟨rfl, rfl, rfl⟩) (fun _ _ => ⟨rfl, rfl, rfl⟩) h
theorem execSreIzx_busSteps {b : Byte} {s t : State} (h : execSreIzx b s = .next t) : BusSteps s t :=
  .rmw (opc := 0x43) (f := stepLsr) (after := opEor) (o := (.izx b)) (fun _ _ => ⟨rfl, rfl, rfl⟩) (fun _ _ => ⟨rfl, rfl, rfl⟩) h
theorem execSreIzy_busSteps {b : Byte} {s t : State} (h : execSreIzy b s = .next t) : BusSteps s t :=
  .rmw (opc := 0x53) (f := stepLsr) (after := opEor) (o := (.izy b)) (fun _ _ => ⟨rfl, rfl, rfl⟩) (fun _ _ => ⟨rfl, rfl, rfl⟩) h
theorem execTasAbsy_busSteps {w : Addr} {s t : State} (h : execTasAbsy w s = .next t) : BusSteps s t :=
  .shx (first := tasSp) (fun _ => ⟨rfl, rfl, rfl⟩) h
theorem execAneImm_busSteps {v : Byte} {s t : State} (h : execAneImm v s = .next t) : BusSteps s t :=
  .readPattern (f := opAne) (fun _ _ => ⟨rfl, rfl, rfl⟩) h
theorem execUsbcImm_busSteps {v : Byte} {s t : State} (h : execUsbcImm v s = .next t) : BusSteps s t :=
  .readPattern (f := opUsbc) (fun _ _ => ⟨rfl, rfl, rfl⟩) h
theorem execJam02_busSteps {s t : State} (h : execJam02 s = .next t) : BusSteps s t :=
  .implied (f := opJam) (.regs (.refl s) rfl rfl rfl) h
theorem execJam12_busSteps {s t : State} (h : execJam12 s = .next t) : BusSteps s t :=
  .implied (f := opJam) (.regs (.refl s) rfl rfl rfl) h
theorem execJam22_busSteps {s t : State} (h : execJam22 s = .next t) : BusSteps s t :=
  .implied (f := opJam) (.regs (.refl s) rfl rfl rfl) h
theorem execJam32_busSteps {s t : State} (h : execJam32 s = .next t) : BusSteps s t :=
  .implied (f := opJam) (.regs (.refl s) rfl rfl rfl) h
theorem execJam42_busSteps {s t : State} (h : execJam42 s = .next t) : BusSteps s t :=
  .implied (f := opJam) (.regs (.refl s) rfl rfl rfl) h
theorem execJam52_busSteps {s t : State} (h : execJam52 s = .next t) : BusSteps s t :=
  .implied (f := opJam) (.regs (.refl s) rfl rfl rfl) h
theorem execJam62_busSteps {s t : State} (h : execJam62 s = .next t) : BusSteps s t :=
  .implied (f := opJam) (.regs (.refl s) rfl rfl rfl) h
theorem execJam72_busSteps {s t : State} (h : execJam72 s = .next t) : BusSteps s t :=
  .implied (f := opJam) (.regs (.refl s) rfl rfl rfl) h
theorem execJam92_busSteps {s t : State} (h : execJam92 s = .next t) : BusSteps s t :=
  .implied (f := opJam) (.regs (.refl s) rfl rfl rfl) h
theorem execJamB2_busSteps {s t : State} (h : execJamB2 s = .next t) : BusSteps s t :=
  .implied (f := opJam) (.regs (.refl s) rfl rfl rfl) h
theorem execJamD2_busSteps {s t : State} (h : execJamD2 s = .next t) : BusSteps s t :=
  .implied (f := opJam) (.regs (.refl s) rfl rfl rfl) h
theorem execJamF2_busSteps {s t : State} (h : execJamF2 s = .next t) : BusSteps s t :=
  .implied (f := opJam) (.regs (.refl s) rfl rfl rfl) h

/-- Every instruction is bus accesses and register updates (R131). -/
theorem exec_busSteps : ∀ (i : Instr) {s t : State}, exec i s = .next t → BusSteps s t
  | .adcImm _, _, _, h => execAdcImm_busSteps h
  | .adcZp _, _, _, h => execAdcZp_busSteps h
  | .adcZpx _, _, _, h => execAdcZpx_busSteps h
  | .adcAbs _, _, _, h => execAdcAbs_busSteps h
  | .adcAbsx _, _, _, h => execAdcAbsx_busSteps h
  | .adcAbsy _, _, _, h => execAdcAbsy_busSteps h
  | .adcIzx _, _, _, h => execAdcIzx_busSteps h
  | .adcIzy _, _, _, h => execAdcIzy_busSteps h
  | .sbcImm _, _, _, h => execSbcImm_busSteps h
  | .sbcZp _, _, _, h => execSbcZp_busSteps h
  | .sbcZpx _, _, _, h => execSbcZpx_busSteps h
  | .sbcAbs _, _, _, h => execSbcAbs_busSteps h
  | .sbcAbsx _, _, _, h => execSbcAbsx_busSteps h
  | .sbcAbsy _, _, _, h => execSbcAbsy_busSteps h
  | .sbcIzx _, _, _, h => execSbcIzx_busSteps h
  | .sbcIzy _, _, _, h => execSbcIzy_busSteps h
  | .andImm _, _, _, h => execAndImm_busSteps h
  | .andZp _, _, _, h => execAndZp_busSteps h
  | .andZpx _, _, _, h => execAndZpx_busSteps h
  | .andAbs _, _, _, h => execAndAbs_busSteps h
  | .andAbsx _, _, _, h => execAndAbsx_busSteps h
  | .andAbsy _, _, _, h => execAndAbsy_busSteps h
  | .andIzx _, _, _, h => execAndIzx_busSteps h
  | .andIzy _, _, _, h => execAndIzy_busSteps h
  | .oraImm _, _, _, h => execOraImm_busSteps h
  | .oraZp _, _, _, h => execOraZp_busSteps h
  | .oraZpx _, _, _, h => execOraZpx_busSteps h
  | .oraAbs _, _, _, h => execOraAbs_busSteps h
  | .oraAbsx _, _, _, h => execOraAbsx_busSteps h
  | .oraAbsy _, _, _, h => execOraAbsy_busSteps h
  | .oraIzx _, _, _, h => execOraIzx_busSteps h
  | .oraIzy _, _, _, h => execOraIzy_busSteps h
  | .eorImm _, _, _, h => execEorImm_busSteps h
  | .eorZp _, _, _, h => execEorZp_busSteps h
  | .eorZpx _, _, _, h => execEorZpx_busSteps h
  | .eorAbs _, _, _, h => execEorAbs_busSteps h
  | .eorAbsx _, _, _, h => execEorAbsx_busSteps h
  | .eorAbsy _, _, _, h => execEorAbsy_busSteps h
  | .eorIzx _, _, _, h => execEorIzx_busSteps h
  | .eorIzy _, _, _, h => execEorIzy_busSteps h
  | .bitZp _, _, _, h => execBitZp_busSteps h
  | .bitAbs _, _, _, h => execBitAbs_busSteps h
  | .aslAcc, _, _, h => execAslAcc_busSteps h
  | .aslZp _, _, _, h => execAslZp_busSteps h
  | .aslZpx _, _, _, h => execAslZpx_busSteps h
  | .aslAbs _, _, _, h => execAslAbs_busSteps h
  | .aslAbsx _, _, _, h => execAslAbsx_busSteps h
  | .lsrAcc, _, _, h => execLsrAcc_busSteps h
  | .lsrZp _, _, _, h => execLsrZp_busSteps h
  | .lsrZpx _, _, _, h => execLsrZpx_busSteps h
  | .lsrAbs _, _, _, h => execLsrAbs_busSteps h
  | .lsrAbsx _, _, _, h => execLsrAbsx_busSteps h
  | .rolAcc, _, _, h => execRolAcc_busSteps h
  | .rolZp _, _, _, h => execRolZp_busSteps h
  | .rolZpx _, _, _, h => execRolZpx_busSteps h
  | .rolAbs _, _, _, h => execRolAbs_busSteps h
  | .rolAbsx _, _, _, h => execRolAbsx_busSteps h
  | .rorAcc, _, _, h => execRorAcc_busSteps h
  | .rorZp _, _, _, h => execRorZp_busSteps h
  | .rorZpx _, _, _, h => execRorZpx_busSteps h
  | .rorAbs _, _, _, h => execRorAbs_busSteps h
  | .rorAbsx _, _, _, h => execRorAbsx_busSteps h
  | .cmpImm _, _, _, h => execCmpImm_busSteps h
  | .cmpZp _, _, _, h => execCmpZp_busSteps h
  | .cmpZpx _, _, _, h => execCmpZpx_busSteps h
  | .cmpAbs _, _, _, h => execCmpAbs_busSteps h
  | .cmpAbsx _, _, _, h => execCmpAbsx_busSteps h
  | .cmpAbsy _, _, _, h => execCmpAbsy_busSteps h
  | .cmpIzx _, _, _, h => execCmpIzx_busSteps h
  | .cmpIzy _, _, _, h => execCmpIzy_busSteps h
  | .cpxImm _, _, _, h => execCpxImm_busSteps h
  | .cpxZp _, _, _, h => execCpxZp_busSteps h
  | .cpxAbs _, _, _, h => execCpxAbs_busSteps h
  | .cpyImm _, _, _, h => execCpyImm_busSteps h
  | .cpyZp _, _, _, h => execCpyZp_busSteps h
  | .cpyAbs _, _, _, h => execCpyAbs_busSteps h
  | .incZp _, _, _, h => execIncZp_busSteps h
  | .incZpx _, _, _, h => execIncZpx_busSteps h
  | .incAbs _, _, _, h => execIncAbs_busSteps h
  | .incAbsx _, _, _, h => execIncAbsx_busSteps h
  | .decZp _, _, _, h => execDecZp_busSteps h
  | .decZpx _, _, _, h => execDecZpx_busSteps h
  | .decAbs _, _, _, h => execDecAbs_busSteps h
  | .decAbsx _, _, _, h => execDecAbsx_busSteps h
  | .inx, _, _, h => execInx_busSteps h
  | .iny, _, _, h => execIny_busSteps h
  | .dex, _, _, h => execDex_busSteps h
  | .dey, _, _, h => execDey_busSteps h
  | .bcc _, _, _, h => execBcc_busSteps h
  | .bcs _, _, _, h => execBcs_busSteps h
  | .beq _, _, _, h => execBeq_busSteps h
  | .bne _, _, _, h => execBne_busSteps h
  | .bmi _, _, _, h => execBmi_busSteps h
  | .bpl _, _, _, h => execBpl_busSteps h
  | .bvc _, _, _, h => execBvc_busSteps h
  | .bvs _, _, _, h => execBvs_busSteps h
  | .pha, _, _, h => execPha_busSteps h
  | .php, _, _, h => execPhp_busSteps h
  | .pla, _, _, h => execPla_busSteps h
  | .plp, _, _, h => execPlp_busSteps h
  | .jsrAbs _, _, _, h => execJsrAbs_busSteps h
  | .rts, _, _, h => execRts_busSteps h
  | .rti, _, _, h => execRti_busSteps h
  | .brk, _, _, h => execBrk_busSteps h
  | .jmpAbs _, _, _, h => execJmpAbs_busSteps h
  | .jmpInd _, _, _, h => execJmpInd_busSteps h
  | .tax, _, _, h => execTax_busSteps h
  | .tay, _, _, h => execTay_busSteps h
  | .txa, _, _, h => execTxa_busSteps h
  | .tya, _, _, h => execTya_busSteps h
  | .tsx, _, _, h => execTsx_busSteps h
  | .txs, _, _, h => execTxs_busSteps h
  | .ldaImm _, _, _, h => execLdaImm_busSteps h
  | .ldaZp _, _, _, h => execLdaZp_busSteps h
  | .ldaZpx _, _, _, h => execLdaZpx_busSteps h
  | .ldaAbs _, _, _, h => execLdaAbs_busSteps h
  | .ldaAbsx _, _, _, h => execLdaAbsx_busSteps h
  | .ldaAbsy _, _, _, h => execLdaAbsy_busSteps h
  | .ldaIzx _, _, _, h => execLdaIzx_busSteps h
  | .ldaIzy _, _, _, h => execLdaIzy_busSteps h
  | .ldxImm _, _, _, h => execLdxImm_busSteps h
  | .ldxZp _, _, _, h => execLdxZp_busSteps h
  | .ldxZpy _, _, _, h => execLdxZpy_busSteps h
  | .ldxAbs _, _, _, h => execLdxAbs_busSteps h
  | .ldxAbsy _, _, _, h => execLdxAbsy_busSteps h
  | .ldyImm _, _, _, h => execLdyImm_busSteps h
  | .ldyZp _, _, _, h => execLdyZp_busSteps h
  | .ldyZpx _, _, _, h => execLdyZpx_busSteps h
  | .ldyAbs _, _, _, h => execLdyAbs_busSteps h
  | .ldyAbsx _, _, _, h => execLdyAbsx_busSteps h
  | .staZp _, _, _, h => execStaZp_busSteps h
  | .staZpx _, _, _, h => execStaZpx_busSteps h
  | .staAbs _, _, _, h => execStaAbs_busSteps h
  | .staAbsx _, _, _, h => execStaAbsx_busSteps h
  | .staAbsy _, _, _, h => execStaAbsy_busSteps h
  | .staIzx _, _, _, h => execStaIzx_busSteps h
  | .staIzy _, _, _, h => execStaIzy_busSteps h
  | .stxZp _, _, _, h => execStxZp_busSteps h
  | .stxZpy _, _, _, h => execStxZpy_busSteps h
  | .stxAbs _, _, _, h => execStxAbs_busSteps h
  | .styZp _, _, _, h => execStyZp_busSteps h
  | .styZpx _, _, _, h => execStyZpx_busSteps h
  | .styAbs _, _, _, h => execStyAbs_busSteps h
  | .clc, _, _, h => execClc_busSteps h
  | .sec, _, _, h => execSec_busSteps h
  | .cli, _, _, h => execCli_busSteps h
  | .sei, _, _, h => execSei_busSteps h
  | .cld, _, _, h => execCld_busSteps h
  | .sed, _, _, h => execSed_busSteps h
  | .clv, _, _, h => execClv_busSteps h
  | .nopImp1A, _, _, h => execNopImp1A_busSteps h
  | .nopImp3A, _, _, h => execNopImp3A_busSteps h
  | .nopImp5A, _, _, h => execNopImp5A_busSteps h
  | .nopImp7A, _, _, h => execNopImp7A_busSteps h
  | .nopImpDA, _, _, h => execNopImpDA_busSteps h
  | .nopImpEA, _, _, h => execNopImpEA_busSteps h
  | .nopImpFA, _, _, h => execNopImpFA_busSteps h
  | .nopImm80 _, _, _, h => execNopImm80_busSteps h
  | .nopImm82 _, _, _, h => execNopImm82_busSteps h
  | .nopImm89 _, _, _, h => execNopImm89_busSteps h
  | .nopImmC2 _, _, _, h => execNopImmC2_busSteps h
  | .nopImmE2 _, _, _, h => execNopImmE2_busSteps h
  | .nopZp04 _, _, _, h => execNopZp04_busSteps h
  | .nopZp44 _, _, _, h => execNopZp44_busSteps h
  | .nopZp64 _, _, _, h => execNopZp64_busSteps h
  | .nopZpx14 _, _, _, h => execNopZpx14_busSteps h
  | .nopZpx34 _, _, _, h => execNopZpx34_busSteps h
  | .nopZpx54 _, _, _, h => execNopZpx54_busSteps h
  | .nopZpx74 _, _, _, h => execNopZpx74_busSteps h
  | .nopZpxD4 _, _, _, h => execNopZpxD4_busSteps h
  | .nopZpxF4 _, _, _, h => execNopZpxF4_busSteps h
  | .nopAbs0C _, _, _, h => execNopAbs0C_busSteps h
  | .nopAbsx1C _, _, _, h => execNopAbsx1C_busSteps h
  | .nopAbsx3C _, _, _, h => execNopAbsx3C_busSteps h
  | .nopAbsx5C _, _, _, h => execNopAbsx5C_busSteps h
  | .nopAbsx7C _, _, _, h => execNopAbsx7C_busSteps h
  | .nopAbsxDC _, _, _, h => execNopAbsxDC_busSteps h
  | .nopAbsxFC _, _, _, h => execNopAbsxFC_busSteps h
  | .alrImm _, _, _, h => execAlrImm_busSteps h
  | .ancImm0B _, _, _, h => execAncImm0B_busSteps h
  | .ancImm2B _, _, _, h => execAncImm2B_busSteps h
  | .arrImm _, _, _, h => execArrImm_busSteps h
  | .dcpZp _, _, _, h => execDcpZp_busSteps h
  | .dcpZpx _, _, _, h => execDcpZpx_busSteps h
  | .dcpAbs _, _, _, h => execDcpAbs_busSteps h
  | .dcpAbsx _, _, _, h => execDcpAbsx_busSteps h
  | .dcpAbsy _, _, _, h => execDcpAbsy_busSteps h
  | .dcpIzx _, _, _, h => execDcpIzx_busSteps h
  | .dcpIzy _, _, _, h => execDcpIzy_busSteps h
  | .iscZp _, _, _, h => execIscZp_busSteps h
  | .iscZpx _, _, _, h => execIscZpx_busSteps h
  | .iscAbs _, _, _, h => execIscAbs_busSteps h
  | .iscAbsx _, _, _, h => execIscAbsx_busSteps h
  | .iscAbsy _, _, _, h => execIscAbsy_busSteps h
  | .iscIzx _, _, _, h => execIscIzx_busSteps h
  | .iscIzy _, _, _, h => execIscIzy_busSteps h
  | .lasAbsy _, _, _, h => execLasAbsy_busSteps h
  | .laxZp _, _, _, h => execLaxZp_busSteps h
  | .laxZpy _, _, _, h => execLaxZpy_busSteps h
  | .laxAbs _, _, _, h => execLaxAbs_busSteps h
  | .laxAbsy _, _, _, h => execLaxAbsy_busSteps h
  | .laxIzx _, _, _, h => execLaxIzx_busSteps h
  | .laxIzy _, _, _, h => execLaxIzy_busSteps h
  | .lxaImm _, _, _, h => execLxaImm_busSteps h
  | .rlaZp _, _, _, h => execRlaZp_busSteps h
  | .rlaZpx _, _, _, h => execRlaZpx_busSteps h
  | .rlaAbs _, _, _, h => execRlaAbs_busSteps h
  | .rlaAbsx _, _, _, h => execRlaAbsx_busSteps h
  | .rlaAbsy _, _, _, h => execRlaAbsy_busSteps h
  | .rlaIzx _, _, _, h => execRlaIzx_busSteps h
  | .rlaIzy _, _, _, h => execRlaIzy_busSteps h
  | .rraZp _, _, _, h => execRraZp_busSteps h
  | .rraZpx _, _, _, h => execRraZpx_busSteps h
  | .rraAbs _, _, _, h => execRraAbs_busSteps h
  | .rraAbsx _, _, _, h => execRraAbsx_busSteps h
  | .rraAbsy _, _, _, h => execRraAbsy_busSteps h
  | .rraIzx _, _, _, h => execRraIzx_busSteps h
  | .rraIzy _, _, _, h => execRraIzy_busSteps h
  | .saxZp _, _, _, h => execSaxZp_busSteps h
  | .saxZpy _, _, _, h => execSaxZpy_busSteps h
  | .saxAbs _, _, _, h => execSaxAbs_busSteps h
  | .saxIzx _, _, _, h => execSaxIzx_busSteps h
  | .sbxImm _, _, _, h => execSbxImm_busSteps h
  | .shaAbsy _, _, _, h => execShaAbsy_busSteps h
  | .shaIzy _, _, _, h => execShaIzy_busSteps h
  | .shxAbsy _, _, _, h => execShxAbsy_busSteps h
  | .shyAbsx _, _, _, h => execShyAbsx_busSteps h
  | .sloZp _, _, _, h => execSloZp_busSteps h
  | .sloZpx _, _, _, h => execSloZpx_busSteps h
  | .sloAbs _, _, _, h => execSloAbs_busSteps h
  | .sloAbsx _, _, _, h => execSloAbsx_busSteps h
  | .sloAbsy _, _, _, h => execSloAbsy_busSteps h
  | .sloIzx _, _, _, h => execSloIzx_busSteps h
  | .sloIzy _, _, _, h => execSloIzy_busSteps h
  | .sreZp _, _, _, h => execSreZp_busSteps h
  | .sreZpx _, _, _, h => execSreZpx_busSteps h
  | .sreAbs _, _, _, h => execSreAbs_busSteps h
  | .sreAbsx _, _, _, h => execSreAbsx_busSteps h
  | .sreAbsy _, _, _, h => execSreAbsy_busSteps h
  | .sreIzx _, _, _, h => execSreIzx_busSteps h
  | .sreIzy _, _, _, h => execSreIzy_busSteps h
  | .tasAbsy _, _, _, h => execTasAbsy_busSteps h
  | .aneImm _, _, _, h => execAneImm_busSteps h
  | .usbcImm _, _, _, h => execUsbcImm_busSteps h
  | .jam02, _, _, h => execJam02_busSteps h
  | .jam12, _, _, h => execJam12_busSteps h
  | .jam22, _, _, h => execJam22_busSteps h
  | .jam32, _, _, h => execJam32_busSteps h
  | .jam42, _, _, h => execJam42_busSteps h
  | .jam52, _, _, h => execJam52_busSteps h
  | .jam62, _, _, h => execJam62_busSteps h
  | .jam72, _, _, h => execJam72_busSteps h
  | .jam92, _, _, h => execJam92_busSteps h
  | .jamB2, _, _, h => execJamB2_busSteps h
  | .jamD2, _, _, h => execJamD2_busSteps h
  | .jamF2, _, _, h => execJamF2_busSteps h

/-- The fetch reads the bytes of the instruction and moves PC; nothing else changes (R122). -/
theorem fetchInstr_busSteps (s : State) : BusSteps s (fetchInstr s).2 := by
  have one : ∀ {u : State}, BusSteps s u → BusSteps s (fetchByte u).2 :=
    fun h => .regs (.read _ h) rfl rfl rfl
  unfold fetchInstr
  dsimp only
  split
  · exact one (.refl s)
  · exact one (one (.refl s))
  · exact one (one (one (.refl s)))

section
variable (s : State)

@[simp] theorem fetchInstr_a : (fetchInstr s).2.a = s.a := by
  unfold fetchInstr; dsimp only; split <;> simp
@[simp] theorem fetchInstr_x : (fetchInstr s).2.x = s.x := by
  unfold fetchInstr; dsimp only; split <;> simp
@[simp] theorem fetchInstr_y : (fetchInstr s).2.y = s.y := by
  unfold fetchInstr; dsimp only; split <;> simp
@[simp] theorem fetchInstr_sp : (fetchInstr s).2.sp = s.sp := by
  unfold fetchInstr; dsimp only; split <;> simp
@[simp] theorem fetchInstr_p : (fetchInstr s).2.p = s.p := by
  unfold fetchInstr; dsimp only; split <;> simp
@[simp] theorem fetchInstr_jammed : (fetchInstr s).2.jammed = s.jammed := by
  unfold fetchInstr; dsimp only; split <;> simp
@[simp] theorem fetchInstr_extra : (fetchInstr s).2.extra = s.extra := by
  unfold fetchInstr; dsimp only; split <;> simp
@[simp] theorem fetchInstr_ram : (fetchInstr s).2.ram = s.ram := by
  unfold fetchInstr; dsimp only; split <;> simp
@[simp] theorem fetchInstr_cart : (fetchInstr s).2.cart = s.cart := by
  unfold fetchInstr; dsimp only; split <;> simp
@[simp] theorem fetchInstr_tickCycles : (fetchInstr s).2.tickCycles = s.tickCycles := by
  unfold fetchInstr; dsimp only; split <;> simp
@[simp] theorem fetchInstr_params : (fetchInstr s).2.params = s.params := by
  unfold fetchInstr; dsimp only; split <;> simp

end

/-- A step of a core that is not jammed is `exec` after the fetch (R134). -/
theorem step_of_not_jammed {s : State} (h : s.jammed = false) :
    step s = exec (fetchInstr (beginTick s)).1 (fetchInstr (beginTick s)).2 := by
  simp [step, h]

/-- Only a core that is not jammed answers a next state (R121). -/
theorem jammed_of_step {s t : State} (h : step s = .next t) : s.jammed = false := by
  cases hj : s.jammed
  · rfl
  · simp [step, hj] at h

/-- Every tick is bus accesses and register updates. -/
theorem step_busSteps {s t : State} (h : step s = .next t) :
    ∃ u, BusSteps (beginTick s) u ∧ BusSteps u t := by
  rw [step_of_not_jammed (jammed_of_step h)] at h
  exact ⟨_, fetchInstr_busSteps _, exec_busSteps _ h⟩

/-- The end of a tick of an opcode with known base cycles (R126). -/
theorem endTick_of_descriptor {opc : Byte} {d : Descriptor} {n : Nat} (hd : descriptorOf opc = d)
    (hn : d.baseCycles = .fixed n) (crossed : Bool) (s : State) :
    endTick opc crossed s =
      .next (s.setTickCycles (n + (if crossed && d.pagePenalty then 1 else 0) + s.extra)) := by
  simp [endTick, cycleCount, hd, hn, baseCount]

end Sys2Proof.Machine
end

