-- ==== Sys2Proof/Tests/Slice0.lean ====
section
/-! SUPPORT. Tests, each on one step of a small state.  A test named after a vector (S6, AR10, ...) takes its start and its end from
spec/95_test_vectors.md; decoding tests take their words from 30_encoding R102 and R109; the rest cite their rule. -/

namespace Sys2Proof.Tests

open Sys2Proof.Machine

/-! ### The start state of 95_test_vectors: code at 0300, BRK vector at 9000, default parameters. -/

/-- R7's defaults; the OPEN ones as the vectors assume them. -/
def testParams : Params := ⟨.fromStack, true, true, false, 0xEE, 0xEE, 3, 7⟩

/-- A 16 KiB mapper-0 cartridge whose FFFE/FFFF is 9000. -/
def testCart : Cartridge := { Cartridge.blank with prgRom := [(0x3FFF, 0x90)] }

/-- Bytes stored one after the other. -/
def placed : List (Nat × Byte) → Memory → Memory
  | [], m => m
  | (k, v) :: rest, m => placed rest (m.write k v)

/-- A, X, Y, SP and P, in this order. -/
abbrev Regs := Byte × Byte × Byte × Byte × Byte

/-- The state of a vector: code at `pc`, the registers, and bytes of RAM. -/
def vectorAt (pc : Addr) (code : List Byte) (r : Regs) (bytes : List (Nat × Byte)) : State where
  a := r.1
  x := r.2.1
  y := r.2.2.1
  sp := r.2.2.2.1
  pc := pc
  p := Status.unpack r.2.2.2.2
  jammed := false
  extra := 0
  ram := placed bytes (Memory.ofBytesFrom pc.toNat code)
  cart := testCart
  events := []
  extReads := 0
  tickCycles := 0
  params := testParams

/-- The default place of the code. -/
def vector (code : List Byte) (r : Regs) (bytes : List (Nat × Byte)) : State :=
  vectorAt 0x0300 code r bytes

/-- What holds of the next state of a step. -/
def after (s : State) (check : State → Bool) : Bool :=
  match step s with
  | .next t => check t
  | .fault _ => false
  | .refused _ => false

/-- One step gives these registers, this PC and cycle count, these bytes of RAM changed and no other, and these events. -/
def gives (s : State) (r : Regs) (bytes : List (Nat × Byte)) (pc : Addr) (cyc : Nat)
    (events : List BusEvent) : Bool :=
  after s fun t =>
    (t.a, t.x, t.y, t.sp, t.p.pack) == r && t.ram == placed bytes s.ram && t.pc == pc &&
      t.tickCycles == cyc && t.events == events && !t.jammed

/-! ### Every opcode's decoding and encoding, the operand bytes 34 12 (R102, R104, R109). -/

/-- Opcodes 0x00 to 0x0F. -/
theorem test_decode_row_0 :
    List.map (fun i => (encode i, decode (encode i ++ [0x99])))
      [.brk, .oraIzx 0x34, .jam02, .sloIzx 0x34, .nopZp04 0x34, .oraZp 0x34,
       .aslZp 0x34, .sloZp 0x34, .php, .oraImm 0x34, .aslAcc, .ancImm0B 0x34,
       .nopAbs0C 0x1234, .oraAbs 0x1234, .aslAbs 0x1234, .sloAbs 0x1234] =
      [([0x00], .ok (.brk, [0x99])),
       ([0x01, 0x34], .ok (.oraIzx 0x34, [0x99])),
       ([0x02], .ok (.jam02, [0x99])),
       ([0x03, 0x34], .ok (.sloIzx 0x34, [0x99])),
       ([0x04, 0x34], .ok (.nopZp04 0x34, [0x99])),
       ([0x05, 0x34], .ok (.oraZp 0x34, [0x99])),
       ([0x06, 0x34], .ok (.aslZp 0x34, [0x99])),
       ([0x07, 0x34], .ok (.sloZp 0x34, [0x99])),
       ([0x08], .ok (.php, [0x99])),
       ([0x09, 0x34], .ok (.oraImm 0x34, [0x99])),
       ([0x0A], .ok (.aslAcc, [0x99])),
       ([0x0B, 0x34], .ok (.ancImm0B 0x34, [0x99])),
       ([0x0C, 0x34, 0x12], .ok (.nopAbs0C 0x1234, [0x99])),
       ([0x0D, 0x34, 0x12], .ok (.oraAbs 0x1234, [0x99])),
       ([0x0E, 0x34, 0x12], .ok (.aslAbs 0x1234, [0x99])),
       ([0x0F, 0x34, 0x12], .ok (.sloAbs 0x1234, [0x99]))] := by
  rfl

/-- Opcodes 0x10 to 0x1F. -/
theorem test_decode_row_1 :
    List.map (fun i => (encode i, decode (encode i ++ [0x99])))
      [.bpl 0x34, .oraIzy 0x34, .jam12, .sloIzy 0x34, .nopZpx14 0x34, .oraZpx 0x34,
       .aslZpx 0x34, .sloZpx 0x34, .clc, .oraAbsy 0x1234, .nopImp1A, .sloAbsy 0x1234,
       .nopAbsx1C 0x1234, .oraAbsx 0x1234, .aslAbsx 0x1234, .sloAbsx 0x1234] =
      [([0x10, 0x34], .ok (.bpl 0x34, [0x99])),
       ([0x11, 0x34], .ok (.oraIzy 0x34, [0x99])),
       ([0x12], .ok (.jam12, [0x99])),
       ([0x13, 0x34], .ok (.sloIzy 0x34, [0x99])),
       ([0x14, 0x34], .ok (.nopZpx14 0x34, [0x99])),
       ([0x15, 0x34], .ok (.oraZpx 0x34, [0x99])),
       ([0x16, 0x34], .ok (.aslZpx 0x34, [0x99])),
       ([0x17, 0x34], .ok (.sloZpx 0x34, [0x99])),
       ([0x18], .ok (.clc, [0x99])),
       ([0x19, 0x34, 0x12], .ok (.oraAbsy 0x1234, [0x99])),
       ([0x1A], .ok (.nopImp1A, [0x99])),
       ([0x1B, 0x34, 0x12], .ok (.sloAbsy 0x1234, [0x99])),
       ([0x1C, 0x34, 0x12], .ok (.nopAbsx1C 0x1234, [0x99])),
       ([0x1D, 0x34, 0x12], .ok (.oraAbsx 0x1234, [0x99])),
       ([0x1E, 0x34, 0x12], .ok (.aslAbsx 0x1234, [0x99])),
       ([0x1F, 0x34, 0x12], .ok (.sloAbsx 0x1234, [0x99]))] := by
  rfl

/-- Opcodes 0x20 to 0x2F. -/
theorem test_decode_row_2 :
    List.map (fun i => (encode i, decode (encode i ++ [0x99])))
      [.jsrAbs 0x1234, .andIzx 0x34, .jam22, .rlaIzx 0x34, .bitZp 0x34, .andZp 0x34,
       .rolZp 0x34, .rlaZp 0x34, .plp, .andImm 0x34, .rolAcc, .ancImm2B 0x34,
       .bitAbs 0x1234, .andAbs 0x1234, .rolAbs 0x1234, .rlaAbs 0x1234] =
      [([0x20, 0x34, 0x12], .ok (.jsrAbs 0x1234, [0x99])),
       ([0x21, 0x34], .ok (.andIzx 0x34, [0x99])),
       ([0x22], .ok (.jam22, [0x99])),
       ([0x23, 0x34], .ok (.rlaIzx 0x34, [0x99])),
       ([0x24, 0x34], .ok (.bitZp 0x34, [0x99])),
       ([0x25, 0x34], .ok (.andZp 0x34, [0x99])),
       ([0x26, 0x34], .ok (.rolZp 0x34, [0x99])),
       ([0x27, 0x34], .ok (.rlaZp 0x34, [0x99])),
       ([0x28], .ok (.plp, [0x99])),
       ([0x29, 0x34], .ok (.andImm 0x34, [0x99])),
       ([0x2A], .ok (.rolAcc, [0x99])),
       ([0x2B, 0x34], .ok (.ancImm2B 0x34, [0x99])),
       ([0x2C, 0x34, 0x12], .ok (.bitAbs 0x1234, [0x99])),
       ([0x2D, 0x34, 0x12], .ok (.andAbs 0x1234, [0x99])),
       ([0x2E, 0x34, 0x12], .ok (.rolAbs 0x1234, [0x99])),
       ([0x2F, 0x34, 0x12], .ok (.rlaAbs 0x1234, [0x99]))] := by
  rfl

/-- Opcodes 0x30 to 0x3F. -/
theorem test_decode_row_3 :
    List.map (fun i => (encode i, decode (encode i ++ [0x99])))
      [.bmi 0x34, .andIzy 0x34, .jam32, .rlaIzy 0x34, .nopZpx34 0x34, .andZpx 0x34,
       .rolZpx 0x34, .rlaZpx 0x34, .sec, .andAbsy 0x1234, .nopImp3A, .rlaAbsy 0x1234,
       .nopAbsx3C 0x1234, .andAbsx 0x1234, .rolAbsx 0x1234, .rlaAbsx 0x1234] =
      [([0x30, 0x34], .ok (.bmi 0x34, [0x99])),
       ([0x31, 0x34], .ok (.andIzy 0x34, [0x99])),
       ([0x32], .ok (.jam32, [0x99])),
       ([0x33, 0x34], .ok (.rlaIzy 0x34, [0x99])),
       ([0x34, 0x34], .ok (.nopZpx34 0x34, [0x99])),
       ([0x35, 0x34], .ok (.andZpx 0x34, [0x99])),
       ([0x36, 0x34], .ok (.rolZpx 0x34, [0x99])),
       ([0x37, 0x34], .ok (.rlaZpx 0x34, [0x99])),
       ([0x38], .ok (.sec, [0x99])),
       ([0x39, 0x34, 0x12], .ok (.andAbsy 0x1234, [0x99])),
       ([0x3A], .ok (.nopImp3A, [0x99])),
       ([0x3B, 0x34, 0x12], .ok (.rlaAbsy 0x1234, [0x99])),
       ([0x3C, 0x34, 0x12], .ok (.nopAbsx3C 0x1234, [0x99])),
       ([0x3D, 0x34, 0x12], .ok (.andAbsx 0x1234, [0x99])),
       ([0x3E, 0x34, 0x12], .ok (.rolAbsx 0x1234, [0x99])),
       ([0x3F, 0x34, 0x12], .ok (.rlaAbsx 0x1234, [0x99]))] := by
  rfl

/-- Opcodes 0x40 to 0x4F. -/
theorem test_decode_row_4 :
    List.map (fun i => (encode i, decode (encode i ++ [0x99])))
      [.rti, .eorIzx 0x34, .jam42, .sreIzx 0x34, .nopZp44 0x34, .eorZp 0x34,
       .lsrZp 0x34, .sreZp 0x34, .pha, .eorImm 0x34, .lsrAcc, .alrImm 0x34,
       .jmpAbs 0x1234, .eorAbs 0x1234, .lsrAbs 0x1234, .sreAbs 0x1234] =
      [([0x40], .ok (.rti, [0x99])),
       ([0x41, 0x34], .ok (.eorIzx 0x34, [0x99])),
       ([0x42], .ok (.jam42, [0x99])),
       ([0x43, 0x34], .ok (.sreIzx 0x34, [0x99])),
       ([0x44, 0x34], .ok (.nopZp44 0x34, [0x99])),
       ([0x45, 0x34], .ok (.eorZp 0x34, [0x99])),
       ([0x46, 0x34], .ok (.lsrZp 0x34, [0x99])),
       ([0x47, 0x34], .ok (.sreZp 0x34, [0x99])),
       ([0x48], .ok (.pha, [0x99])),
       ([0x49, 0x34], .ok (.eorImm 0x34, [0x99])),
       ([0x4A], .ok (.lsrAcc, [0x99])),
       ([0x4B, 0x34], .ok (.alrImm 0x34, [0x99])),
       ([0x4C, 0x34, 0x12], .ok (.jmpAbs 0x1234, [0x99])),
       ([0x4D, 0x34, 0x12], .ok (.eorAbs 0x1234, [0x99])),
       ([0x4E, 0x34, 0x12], .ok (.lsrAbs 0x1234, [0x99])),
       ([0x4F, 0x34, 0x12], .ok (.sreAbs 0x1234, [0x99]))] := by
  rfl

/-- Opcodes 0x50 to 0x5F. -/
theorem test_decode_row_5 :
    List.map (fun i => (encode i, decode (encode i ++ [0x99])))
      [.bvc 0x34, .eorIzy 0x34, .jam52, .sreIzy 0x34, .nopZpx54 0x34, .eorZpx 0x34,
       .lsrZpx 0x34, .sreZpx 0x34, .cli, .eorAbsy 0x1234, .nopImp5A, .sreAbsy 0x1234,
       .nopAbsx5C 0x1234, .eorAbsx 0x1234, .lsrAbsx 0x1234, .sreAbsx 0x1234] =
      [([0x50, 0x34], .ok (.bvc 0x34, [0x99])),
       ([0x51, 0x34], .ok (.eorIzy 0x34, [0x99])),
       ([0x52], .ok (.jam52, [0x99])),
       ([0x53, 0x34], .ok (.sreIzy 0x34, [0x99])),
       ([0x54, 0x34], .ok (.nopZpx54 0x34, [0x99])),
       ([0x55, 0x34], .ok (.eorZpx 0x34, [0x99])),
       ([0x56, 0x34], .ok (.lsrZpx 0x34, [0x99])),
       ([0x57, 0x34], .ok (.sreZpx 0x34, [0x99])),
       ([0x58], .ok (.cli, [0x99])),
       ([0x59, 0x34, 0x12], .ok (.eorAbsy 0x1234, [0x99])),
       ([0x5A], .ok (.nopImp5A, [0x99])),
       ([0x5B, 0x34, 0x12], .ok (.sreAbsy 0x1234, [0x99])),
       ([0x5C, 0x34, 0x12], .ok (.nopAbsx5C 0x1234, [0x99])),
       ([0x5D, 0x34, 0x12], .ok (.eorAbsx 0x1234, [0x99])),
       ([0x5E, 0x34, 0x12], .ok (.lsrAbsx 0x1234, [0x99])),
       ([0x5F, 0x34, 0x12], .ok (.sreAbsx 0x1234, [0x99]))] := by
  rfl

/-- Opcodes 0x60 to 0x6F. -/
theorem test_decode_row_6 :
    List.map (fun i => (encode i, decode (encode i ++ [0x99])))
      [.rts, .adcIzx 0x34, .jam62, .rraIzx 0x34, .nopZp64 0x34, .adcZp 0x34,
       .rorZp 0x34, .rraZp 0x34, .pla, .adcImm 0x34, .rorAcc, .arrImm 0x34,
       .jmpInd 0x1234, .adcAbs 0x1234, .rorAbs 0x1234, .rraAbs 0x1234] =
      [([0x60], .ok (.rts, [0x99])),
       ([0x61, 0x34], .ok (.adcIzx 0x34, [0x99])),
       ([0x62], .ok (.jam62, [0x99])),
       ([0x63, 0x34], .ok (.rraIzx 0x34, [0x99])),
       ([0x64, 0x34], .ok (.nopZp64 0x34, [0x99])),
       ([0x65, 0x34], .ok (.adcZp 0x34, [0x99])),
       ([0x66, 0x34], .ok (.rorZp 0x34, [0x99])),
       ([0x67, 0x34], .ok (.rraZp 0x34, [0x99])),
       ([0x68], .ok (.pla, [0x99])),
       ([0x69, 0x34], .ok (.adcImm 0x34, [0x99])),
       ([0x6A], .ok (.rorAcc, [0x99])),
       ([0x6B, 0x34], .ok (.arrImm 0x34, [0x99])),
       ([0x6C, 0x34, 0x12], .ok (.jmpInd 0x1234, [0x99])),
       ([0x6D, 0x34, 0x12], .ok (.adcAbs 0x1234, [0x99])),
       ([0x6E, 0x34, 0x12], .ok (.rorAbs 0x1234, [0x99])),
       ([0x6F, 0x34, 0x12], .ok (.rraAbs 0x1234, [0x99]))] := by
  rfl

/-- Opcodes 0x70 to 0x7F. -/
theorem test_decode_row_7 :
    List.map (fun i => (encode i, decode (encode i ++ [0x99])))
      [.bvs 0x34, .adcIzy 0x34, .jam72, .rraIzy 0x34, .nopZpx74 0x34, .adcZpx 0x34,
       .rorZpx 0x34, .rraZpx 0x34, .sei, .adcAbsy 0x1234, .nopImp7A, .rraAbsy 0x1234,
       .nopAbsx7C 0x1234, .adcAbsx 0x1234, .rorAbsx 0x1234, .rraAbsx 0x1234] =
      [([0x70, 0x34], .ok (.bvs 0x34, [0x99])),
       ([0x71, 0x34], .ok (.adcIzy 0x34, [0x99])),
       ([0x72], .ok (.jam72, [0x99])),
       ([0x73, 0x34], .ok (.rraIzy 0x34, [0x99])),
       ([0x74, 0x34], .ok (.nopZpx74 0x34, [0x99])),
       ([0x75, 0x34], .ok (.adcZpx 0x34, [0x99])),
       ([0x76, 0x34], .ok (.rorZpx 0x34, [0x99])),
       ([0x77, 0x34], .ok (.rraZpx 0x34, [0x99])),
       ([0x78], .ok (.sei, [0x99])),
       ([0x79, 0x34, 0x12], .ok (.adcAbsy 0x1234, [0x99])),
       ([0x7A], .ok (.nopImp7A, [0x99])),
       ([0x7B, 0x34, 0x12], .ok (.rraAbsy 0x1234, [0x99])),
       ([0x7C, 0x34, 0x12], .ok (.nopAbsx7C 0x1234, [0x99])),
       ([0x7D, 0x34, 0x12], .ok (.adcAbsx 0x1234, [0x99])),
       ([0x7E, 0x34, 0x12], .ok (.rorAbsx 0x1234, [0x99])),
       ([0x7F, 0x34, 0x12], .ok (.rraAbsx 0x1234, [0x99]))] := by
  rfl

/-- Opcodes 0x80 to 0x8F. -/
theorem test_decode_row_8 :
    List.map (fun i => (encode i, decode (encode i ++ [0x99])))
      [.nopImm80 0x34, .staIzx 0x34, .nopImm82 0x34, .saxIzx 0x34, .styZp 0x34, .staZp 0x34,
       .stxZp 0x34, .saxZp 0x34, .dey, .nopImm89 0x34, .txa, .aneImm 0x34,
       .styAbs 0x1234, .staAbs 0x1234, .stxAbs 0x1234, .saxAbs 0x1234] =
      [([0x80, 0x34], .ok (.nopImm80 0x34, [0x99])),
       ([0x81, 0x34], .ok (.staIzx 0x34, [0x99])),
       ([0x82, 0x34], .ok (.nopImm82 0x34, [0x99])),
       ([0x83, 0x34], .ok (.saxIzx 0x34, [0x99])),
       ([0x84, 0x34], .ok (.styZp 0x34, [0x99])),
       ([0x85, 0x34], .ok (.staZp 0x34, [0x99])),
       ([0x86, 0x34], .ok (.stxZp 0x34, [0x99])),
       ([0x87, 0x34], .ok (.saxZp 0x34, [0x99])),
       ([0x88], .ok (.dey, [0x99])),
       ([0x89, 0x34], .ok (.nopImm89 0x34, [0x99])),
       ([0x8A], .ok (.txa, [0x99])),
       ([0x8B, 0x34], .ok (.aneImm 0x34, [0x99])),
       ([0x8C, 0x34, 0x12], .ok (.styAbs 0x1234, [0x99])),
       ([0x8D, 0x34, 0x12], .ok (.staAbs 0x1234, [0x99])),
       ([0x8E, 0x34, 0x12], .ok (.stxAbs 0x1234, [0x99])),
       ([0x8F, 0x34, 0x12], .ok (.saxAbs 0x1234, [0x99]))] := by
  rfl

/-- Opcodes 0x90 to 0x9F. -/
theorem test_decode_row_9 :
    List.map (fun i => (encode i, decode (encode i ++ [0x99])))
      [.bcc 0x34, .staIzy 0x34, .jam92, .shaIzy 0x34, .styZpx 0x34, .staZpx 0x34,
       .stxZpy 0x34, .saxZpy 0x34, .tya, .staAbsy 0x1234, .txs, .tasAbsy 0x1234,
       .shyAbsx 0x1234, .staAbsx 0x1234, .shxAbsy 0x1234, .shaAbsy 0x1234] =
      [([0x90, 0x34], .ok (.bcc 0x34, [0x99])),
       ([0x91, 0x34], .ok (.staIzy 0x34, [0x99])),
       ([0x92], .ok (.jam92, [0x99])),
       ([0x93, 0x34], .ok (.shaIzy 0x34, [0x99])),
       ([0x94, 0x34], .ok (.styZpx 0x34, [0x99])),
       ([0x95, 0x34], .ok (.staZpx 0x34, [0x99])),
       ([0x96, 0x34], .ok (.stxZpy 0x34, [0x99])),
       ([0x97, 0x34], .ok (.saxZpy 0x34, [0x99])),
       ([0x98], .ok (.tya, [0x99])),
       ([0x99, 0x34, 0x12], .ok (.staAbsy 0x1234, [0x99])),
       ([0x9A], .ok (.txs, [0x99])),
       ([0x9B, 0x34, 0x12], .ok (.tasAbsy 0x1234, [0x99])),
       ([0x9C, 0x34, 0x12], .ok (.shyAbsx 0x1234, [0x99])),
       ([0x9D, 0x34, 0x12], .ok (.staAbsx 0x1234, [0x99])),
       ([0x9E, 0x34, 0x12], .ok (.shxAbsy 0x1234, [0x99])),
       ([0x9F, 0x34, 0x12], .ok (.shaAbsy 0x1234, [0x99]))] := by
  rfl

/-- Opcodes 0xA0 to 0xAF. -/
theorem test_decode_row_A :
    List.map (fun i => (encode i, decode (encode i ++ [0x99])))
      [.ldyImm 0x34, .ldaIzx 0x34, .ldxImm 0x34, .laxIzx 0x34, .ldyZp 0x34, .ldaZp 0x34,
       .ldxZp 0x34, .laxZp 0x34, .tay, .ldaImm 0x34, .tax, .lxaImm 0x34,
       .ldyAbs 0x1234, .ldaAbs 0x1234, .ldxAbs 0x1234, .laxAbs 0x1234] =
      [([0xA0, 0x34], .ok (.ldyImm 0x34, [0x99])),
       ([0xA1, 0x34], .ok (.ldaIzx 0x34, [0x99])),
       ([0xA2, 0x34], .ok (.ldxImm 0x34, [0x99])),
       ([0xA3, 0x34], .ok (.laxIzx 0x34, [0x99])),
       ([0xA4, 0x34], .ok (.ldyZp 0x34, [0x99])),
       ([0xA5, 0x34], .ok (.ldaZp 0x34, [0x99])),
       ([0xA6, 0x34], .ok (.ldxZp 0x34, [0x99])),
       ([0xA7, 0x34], .ok (.laxZp 0x34, [0x99])),
       ([0xA8], .ok (.tay, [0x99])),
       ([0xA9, 0x34], .ok (.ldaImm 0x34, [0x99])),
       ([0xAA], .ok (.tax, [0x99])),
       ([0xAB, 0x34], .ok (.lxaImm 0x34, [0x99])),
       ([0xAC, 0x34, 0x12], .ok (.ldyAbs 0x1234, [0x99])),
       ([0xAD, 0x34, 0x12], .ok (.ldaAbs 0x1234, [0x99])),
       ([0xAE, 0x34, 0x12], .ok (.ldxAbs 0x1234, [0x99])),
       ([0xAF, 0x34, 0x12], .ok (.laxAbs 0x1234, [0x99]))] := by
  rfl

/-- Opcodes 0xB0 to 0xBF. -/
theorem test_decode_row_B :
    List.map (fun i => (encode i, decode (encode i ++ [0x99])))
      [.bcs 0x34, .ldaIzy 0x34, .jamB2, .laxIzy 0x34, .ldyZpx 0x34, .ldaZpx 0x34,
       .ldxZpy 0x34, .laxZpy 0x34, .clv, .ldaAbsy 0x1234, .tsx, .lasAbsy 0x1234,
       .ldyAbsx 0x1234, .ldaAbsx 0x1234, .ldxAbsy 0x1234, .laxAbsy 0x1234] =
      [([0xB0, 0x34], .ok (.bcs 0x34, [0x99])),
       ([0xB1, 0x34], .ok (.ldaIzy 0x34, [0x99])),
       ([0xB2], .ok (.jamB2, [0x99])),
       ([0xB3, 0x34], .ok (.laxIzy 0x34, [0x99])),
       ([0xB4, 0x34], .ok (.ldyZpx 0x34, [0x99])),
       ([0xB5, 0x34], .ok (.ldaZpx 0x34, [0x99])),
       ([0xB6, 0x34], .ok (.ldxZpy 0x34, [0x99])),
       ([0xB7, 0x34], .ok (.laxZpy 0x34, [0x99])),
       ([0xB8], .ok (.clv, [0x99])),
       ([0xB9, 0x34, 0x12], .ok (.ldaAbsy 0x1234, [0x99])),
       ([0xBA], .ok (.tsx, [0x99])),
       ([0xBB, 0x34, 0x12], .ok (.lasAbsy 0x1234, [0x99])),
       ([0xBC, 0x34, 0x12], .ok (.ldyAbsx 0x1234, [0x99])),
       ([0xBD, 0x34, 0x12], .ok (.ldaAbsx 0x1234, [0x99])),
       ([0xBE, 0x34, 0x12], .ok (.ldxAbsy 0x1234, [0x99])),
       ([0xBF, 0x34, 0x12], .ok (.laxAbsy 0x1234, [0x99]))] := by
  rfl

/-- Opcodes 0xC0 to 0xCF. -/
theorem test_decode_row_C :
    List.map (fun i => (encode i, decode (encode i ++ [0x99])))
      [.cpyImm 0x34, .cmpIzx 0x34, .nopImmC2 0x34, .dcpIzx 0x34, .cpyZp 0x34, .cmpZp 0x34,
       .decZp 0x34, .dcpZp 0x34, .iny, .cmpImm 0x34, .dex, .sbxImm 0x34,
       .cpyAbs 0x1234, .cmpAbs 0x1234, .decAbs 0x1234, .dcpAbs 0x1234] =
      [([0xC0, 0x34], .ok (.cpyImm 0x34, [0x99])),
       ([0xC1, 0x34], .ok (.cmpIzx 0x34, [0x99])),
       ([0xC2, 0x34], .ok (.nopImmC2 0x34, [0x99])),
       ([0xC3, 0x34], .ok (.dcpIzx 0x34, [0x99])),
       ([0xC4, 0x34], .ok (.cpyZp 0x34, [0x99])),
       ([0xC5, 0x34], .ok (.cmpZp 0x34, [0x99])),
       ([0xC6, 0x34], .ok (.decZp 0x34, [0x99])),
       ([0xC7, 0x34], .ok (.dcpZp 0x34, [0x99])),
       ([0xC8], .ok (.iny, [0x99])),
       ([0xC9, 0x34], .ok (.cmpImm 0x34, [0x99])),
       ([0xCA], .ok (.dex, [0x99])),
       ([0xCB, 0x34], .ok (.sbxImm 0x34, [0x99])),
       ([0xCC, 0x34, 0x12], .ok (.cpyAbs 0x1234, [0x99])),
       ([0xCD, 0x34, 0x12], .ok (.cmpAbs 0x1234, [0x99])),
       ([0xCE, 0x34, 0x12], .ok (.decAbs 0x1234, [0x99])),
       ([0xCF, 0x34, 0x12], .ok (.dcpAbs 0x1234, [0x99]))] := by
  rfl

/-- Opcodes 0xD0 to 0xDF. -/
theorem test_decode_row_D :
    List.map (fun i => (encode i, decode (encode i ++ [0x99])))
      [.bne 0x34, .cmpIzy 0x34, .jamD2, .dcpIzy 0x34, .nopZpxD4 0x34, .cmpZpx 0x34,
       .decZpx 0x34, .dcpZpx 0x34, .cld, .cmpAbsy 0x1234, .nopImpDA, .dcpAbsy 0x1234,
       .nopAbsxDC 0x1234, .cmpAbsx 0x1234, .decAbsx 0x1234, .dcpAbsx 0x1234] =
      [([0xD0, 0x34], .ok (.bne 0x34, [0x99])),
       ([0xD1, 0x34], .ok (.cmpIzy 0x34, [0x99])),
       ([0xD2], .ok (.jamD2, [0x99])),
       ([0xD3, 0x34], .ok (.dcpIzy 0x34, [0x99])),
       ([0xD4, 0x34], .ok (.nopZpxD4 0x34, [0x99])),
       ([0xD5, 0x34], .ok (.cmpZpx 0x34, [0x99])),
       ([0xD6, 0x34], .ok (.decZpx 0x34, [0x99])),
       ([0xD7, 0x34], .ok (.dcpZpx 0x34, [0x99])),
       ([0xD8], .ok (.cld, [0x99])),
       ([0xD9, 0x34, 0x12], .ok (.cmpAbsy 0x1234, [0x99])),
       ([0xDA], .ok (.nopImpDA, [0x99])),
       ([0xDB, 0x34, 0x12], .ok (.dcpAbsy 0x1234, [0x99])),
       ([0xDC, 0x34, 0x12], .ok (.nopAbsxDC 0x1234, [0x99])),
       ([0xDD, 0x34, 0x12], .ok (.cmpAbsx 0x1234, [0x99])),
       ([0xDE, 0x34, 0x12], .ok (.decAbsx 0x1234, [0x99])),
       ([0xDF, 0x34, 0x12], .ok (.dcpAbsx 0x1234, [0x99]))] := by
  rfl

/-- Opcodes 0xE0 to 0xEF. -/
theorem test_decode_row_E :
    List.map (fun i => (encode i, decode (encode i ++ [0x99])))
      [.cpxImm 0x34, .sbcIzx 0x34, .nopImmE2 0x34, .iscIzx 0x34, .cpxZp 0x34, .sbcZp 0x34,
       .incZp 0x34, .iscZp 0x34, .inx, .sbcImm 0x34, .nopImpEA, .usbcImm 0x34,
       .cpxAbs 0x1234, .sbcAbs 0x1234, .incAbs 0x1234, .iscAbs 0x1234] =
      [([0xE0, 0x34], .ok (.cpxImm 0x34, [0x99])),
       ([0xE1, 0x34], .ok (.sbcIzx 0x34, [0x99])),
       ([0xE2, 0x34], .ok (.nopImmE2 0x34, [0x99])),
       ([0xE3, 0x34], .ok (.iscIzx 0x34, [0x99])),
       ([0xE4, 0x34], .ok (.cpxZp 0x34, [0x99])),
       ([0xE5, 0x34], .ok (.sbcZp 0x34, [0x99])),
       ([0xE6, 0x34], .ok (.incZp 0x34, [0x99])),
       ([0xE7, 0x34], .ok (.iscZp 0x34, [0x99])),
       ([0xE8], .ok (.inx, [0x99])),
       ([0xE9, 0x34], .ok (.sbcImm 0x34, [0x99])),
       ([0xEA], .ok (.nopImpEA, [0x99])),
       ([0xEB, 0x34], .ok (.usbcImm 0x34, [0x99])),
       ([0xEC, 0x34, 0x12], .ok (.cpxAbs 0x1234, [0x99])),
       ([0xED, 0x34, 0x12], .ok (.sbcAbs 0x1234, [0x99])),
       ([0xEE, 0x34, 0x12], .ok (.incAbs 0x1234, [0x99])),
       ([0xEF, 0x34, 0x12], .ok (.iscAbs 0x1234, [0x99]))] := by
  rfl

/-- Opcodes 0xF0 to 0xFF. -/
theorem test_decode_row_F :
    List.map (fun i => (encode i, decode (encode i ++ [0x99])))
      [.beq 0x34, .sbcIzy 0x34, .jamF2, .iscIzy 0x34, .nopZpxF4 0x34, .sbcZpx 0x34,
       .incZpx 0x34, .iscZpx 0x34, .sed, .sbcAbsy 0x1234, .nopImpFA, .iscAbsy 0x1234,
       .nopAbsxFC 0x1234, .sbcAbsx 0x1234, .incAbsx 0x1234, .iscAbsx 0x1234] =
      [([0xF0, 0x34], .ok (.beq 0x34, [0x99])),
       ([0xF1, 0x34], .ok (.sbcIzy 0x34, [0x99])),
       ([0xF2], .ok (.jamF2, [0x99])),
       ([0xF3, 0x34], .ok (.iscIzy 0x34, [0x99])),
       ([0xF4, 0x34], .ok (.nopZpxF4 0x34, [0x99])),
       ([0xF5, 0x34], .ok (.sbcZpx 0x34, [0x99])),
       ([0xF6, 0x34], .ok (.incZpx 0x34, [0x99])),
       ([0xF7, 0x34], .ok (.iscZpx 0x34, [0x99])),
       ([0xF8], .ok (.sed, [0x99])),
       ([0xF9, 0x34, 0x12], .ok (.sbcAbsy 0x1234, [0x99])),
       ([0xFA], .ok (.nopImpFA, [0x99])),
       ([0xFB, 0x34, 0x12], .ok (.iscAbsy 0x1234, [0x99])),
       ([0xFC, 0x34, 0x12], .ok (.nopAbsxFC 0x1234, [0x99])),
       ([0xFD, 0x34, 0x12], .ok (.sbcAbsx 0x1234, [0x99])),
       ([0xFE, 0x34, 0x12], .ok (.incAbsx 0x1234, [0x99])),
       ([0xFF, 0x34, 0x12], .ok (.iscAbsx 0x1234, [0x99]))] := by
  rfl

/-! ### One word of each family, bit by bit. -/

/-- ADC #5A: 0x69 is 0110 1001. -/
theorem test_bits_arith : decode [0b01101001, 0b01011010] = .ok (.adcImm 0x5A, []) := rfl
/-- LSR 10,X: 0x56 is 0101 0110. -/
theorem test_bits_shift : decode [0b01010110, 0b00010000] = .ok (.lsrZpx 0x10, []) := rfl
/-- CPY 1234: 0xCC is 1100 1100, low operand byte first. -/
theorem test_bits_compare :
    decode [0b11001100, 0b00110100, 0b00010010] = .ok (.cpyAbs 0x1234, []) := rfl
/-- BNE -2: 0xD0 is 1101 0000. -/
theorem test_bits_branch : decode [0b11010000, 0b11111110] = .ok (.bne 0xFE, []) := rfl
/-- JMP (02FF): 0x6C is 0110 1100. -/
theorem test_bits_control :
    decode [0b01101100, 0b11111111, 0b00000010] = .ok (.jmpInd 0x02FF, []) := rfl
/-- STX FF,Y: 0x96 is 1001 0110. -/
theorem test_bits_store : decode [0b10010110, 0b11111111] = .ok (.stxZpy 0xFF, []) := rfl
/-- SEI: 0x78 is 0111 1000. -/
theorem test_bits_flag : decode [0b01111000] = .ok (.sei, []) := rfl
/-- SHA (40),Y: 0x93 is 1001 0011. -/
theorem test_bits_undocumented : decode [0b10010011, 0b01000000] = .ok (.shaIzy 0x40, []) := rfl

/-- The table numbers the first byte as bits 7..0; a missing operand byte is zero. -/
theorem test_table_word :
    decodeTableWord 24 0x1234AD = some (.ldaAbs 0x1234) ∧
      decodeTableWord 8 0xAD = some (.ldaAbs 0) ∧ decodeTableWord 16 0x5A69 = some (.adcImm 0x5A) := by
  decide

/-- Too few bytes are rejected by name (R101). -/
theorem test_decode_truncated :
    decode [] = .error .empty ∧ decode [0x69] = .error (.truncated 0x69) ∧
      decode [0xAD, 0x34] = .error (.truncated 0xAD) :=
  ⟨rfl, rfl, rfl⟩

/-! ### WellFormed refuses the ill-formed (R101, R110). -/

/-- There is no STA immediate (R269). -/
theorem test_ill_formed_sta : (Asm.mk .sta (.imm 0x12)).WellFormed = false := rfl
/-- There is no LDX $nn,X, no JMP (nn),Y, no branch with an absolute operand, no implied ADC. -/
theorem test_ill_formed_modes :
    (Asm.mk .ldx (.zpx 1)).WellFormed = false ∧ (Asm.mk .jmp (.izy 1)).WellFormed = false ∧
      (Asm.mk .bne (.abs 1)).WellFormed = false ∧ (Asm.mk .adc .imp).WellFormed = false ∧
      (Asm.mk .inc .acc).WellFormed = false :=
  ⟨rfl, rfl, rfl, rfl, rfl⟩
/-- A byte string of the wrong length. -/
theorem test_ill_formed_length :
    Mode.abs.bytesWellFormed [0xAD, 0x34] = false ∧ Mode.imp.bytesWellFormed [0xEA, 0] = false ∧
      Mode.zp.bytesWellFormed [0xA5, 0x80] = true :=
  ⟨rfl, rfl, rfl⟩
/-- A memory out of order, with a repeated key, or with an entry that an unlisted key reads as. -/
theorem test_ill_formed_memory :
    Memory.wf [(2, 1), (1, 1)] = false ∧ Memory.wf [(1, 1), (1, 2)] = false ∧
      Memory.wf [(1, 0)] = false ∧ Memory.wf [(1, 1), (2, 2)] = true := by
  decide
/-- A cartridge without program ROM, with another mapper, or with a ROM byte outside the image. -/
theorem test_ill_formed_cartridge :
    ¬ ({ testCart with prgUnits := 0 } : Cartridge).WellFormed ∧
      ¬ ({ testCart with mapperId := 1 } : Cartridge).WellFormed ∧
      ¬ ({ testCart with prgRom := [(0x4000, 1)] } : Cartridge).WellFormed ∧
      testCart.WellFormed := by
  decide

/-! ### The vectors, by family. -/

theorem test_S6_adc : gives (vector [0x69, 0x50] (0x50, 0x00, 0x00, 0xFD, 0x24) [])
    (0xA0, 0x00, 0x00, 0xFD, 0xE4) [] 0x0302 2 [] = true := by decide
theorem test_AR5_adc : gives (vector [0x69, 0x01] (0x01, 0x00, 0x00, 0xFD, 0x25) [])
    (0x03, 0x00, 0x00, 0xFD, 0x24) [] 0x0302 2 [] = true := by decide
theorem test_AR10_sbc : gives (vector [0xE9, 0x03] (0x05, 0x00, 0x00, 0xFD, 0x24) [])
    (0x01, 0x00, 0x00, 0xFD, 0x25) [] 0x0302 2 [] = true := by decide
theorem test_AR12_sbc : gives (vector [0xE9, 0x01] (0x10, 0x00, 0x00, 0xFD, 0x2D) [])
    (0x0F, 0x00, 0x00, 0xFD, 0x2D) [] 0x0302 2 [] = true := by decide
theorem test_AR13_and : gives (vector [0x29, 0x0F] (0xF0, 0x00, 0x00, 0xFD, 0x24) [])
    (0x00, 0x00, 0x00, 0xFD, 0x26) [] 0x0302 2 [] = true := by decide
theorem test_AR15_ora : gives (vector [0x09, 0x80] (0x01, 0x00, 0x00, 0xFD, 0x24) [])
    (0x81, 0x00, 0x00, 0xFD, 0xA4) [] 0x0302 2 [] = true := by decide
theorem test_AR16_eor : gives (vector [0x49, 0xFF] (0xFF, 0x00, 0x00, 0xFD, 0x24) [])
    (0x00, 0x00, 0x00, 0xFD, 0x26) [] 0x0302 2 [] = true := by decide
theorem test_AR17_bit : gives (vector [0x24, 0x10] (0x01, 0x00, 0x00, 0xFD, 0x24) [(0x10, 0xC0)])
    (0x01, 0x00, 0x00, 0xFD, 0xE6) [] 0x0302 3 [] = true := by decide
theorem test_SH1_asl : gives (vector [0x0A] (0x80, 0x00, 0x00, 0xFD, 0x24) [])
    (0x00, 0x00, 0x00, 0xFD, 0x27) [] 0x0301 2 [] = true := by decide
theorem test_SH7_asl : gives (vector [0x06, 0x10] (0x00, 0x00, 0x00, 0xFD, 0x24) [(0x10, 0x40)])
    (0x00, 0x00, 0x00, 0xFD, 0xA4) [(0x10, 0x80)] 0x0302 5 [] = true := by decide
theorem test_SH2_lsr : gives (vector [0x4A] (0x01, 0x00, 0x00, 0xFD, 0x24) [])
    (0x00, 0x00, 0x00, 0xFD, 0x27) [] 0x0301 2 [] = true := by decide
theorem test_SH9_lsr : gives (vector [0x56, 0xFF] (0x00, 0x02, 0x00, 0xFD, 0x24) [(0x01, 0x81)])
    (0x00, 0x02, 0x00, 0xFD, 0x25) [(0x01, 0x40)] 0x0302 6 [] = true := by decide
theorem test_SH4_rol : gives (vector [0x2A] (0x00, 0x00, 0x00, 0xFD, 0x25) [])
    (0x01, 0x00, 0x00, 0xFD, 0x24) [] 0x0301 2 [] = true := by decide
theorem test_SH6_ror : gives (vector [0x6A] (0x00, 0x00, 0x00, 0xFD, 0x25) [])
    (0x80, 0x00, 0x00, 0xFD, 0xA4) [] 0x0301 2 [] = true := by decide
theorem test_SH8_ror : gives (vector [0x7E, 0x00, 0x02] (0x00, 0x05, 0x00, 0xFD, 0x25) [(0x205, 0x02)])
    (0x00, 0x05, 0x00, 0xFD, 0xA4) [(0x205, 0x81)] 0x0303 7 [] = true := by decide
theorem test_CI2_cmp : gives (vector [0xC9, 0x20] (0x10, 0x00, 0x00, 0xFD, 0x24) [])
    (0x10, 0x00, 0x00, 0xFD, 0xA4) [] 0x0302 2 [] = true := by decide
theorem test_CI5_cmp : gives (vector [0xC9, 0x00] (0x80, 0x00, 0x00, 0xFD, 0x24) [])
    (0x80, 0x00, 0x00, 0xFD, 0xA5) [] 0x0302 2 [] = true := by decide
theorem test_CI6_cpx : gives (vector [0xE0, 0xFF] (0x00, 0xFF, 0x00, 0xFD, 0x24) [])
    (0x00, 0xFF, 0x00, 0xFD, 0x27) [] 0x0302 2 [] = true := by decide
theorem test_CI7_cpy : gives (vector [0xC0, 0x01] (0x00, 0x00, 0x00, 0xFD, 0x24) [])
    (0x00, 0x00, 0x00, 0xFD, 0xA4) [] 0x0302 2 [] = true := by decide
theorem test_CI8_inc : gives (vector [0xE6, 0x10] (0x00, 0x00, 0x00, 0xFD, 0x24) [(0x10, 0xFF)])
    (0x00, 0x00, 0x00, 0xFD, 0x26) [(0x10, 0x00)] 0x0302 5 [] = true := by decide
theorem test_CI16_inc : gives (vector [0xFE, 0xFF, 0x04] (0x00, 0x01, 0x00, 0xFD, 0x24) [(0x500, 0x7F)])
    (0x00, 0x01, 0x00, 0xFD, 0xA4) [(0x500, 0x80)] 0x0303 7 [] = true := by decide
theorem test_CI10_dec : gives (vector [0xC6, 0x10] (0x00, 0x00, 0x00, 0xFD, 0x24) [])
    (0x00, 0x00, 0x00, 0xFD, 0xA4) [(0x10, 0xFF)] 0x0302 5 [] = true := by decide
theorem test_CI12_inx : gives (vector [0xE8] (0x00, 0xFF, 0x00, 0xFD, 0x24) [])
    (0x00, 0x00, 0x00, 0xFD, 0x26) [] 0x0301 2 [] = true := by decide
theorem test_CI14_iny : gives (vector [0xC8] (0x00, 0x00, 0x7F, 0xFD, 0x24) [])
    (0x00, 0x00, 0x80, 0xFD, 0xA4) [] 0x0301 2 [] = true := by decide
theorem test_CI13_dex : gives (vector [0xCA] (0x00, 0x00, 0x00, 0xFD, 0x24) [])
    (0x00, 0xFF, 0x00, 0xFD, 0xA4) [] 0x0301 2 [] = true := by decide
theorem test_CI15_dey : gives (vector [0x88] (0x00, 0x00, 0x01, 0xFD, 0x24) [])
    (0x00, 0x00, 0x00, 0xFD, 0x26) [] 0x0301 2 [] = true := by decide
theorem test_B1_bne : gives (vector [0xD0, 0x10] (0x00, 0x00, 0x00, 0xFD, 0x26) [])
    (0x00, 0x00, 0x00, 0xFD, 0x26) [] 0x0302 2 [] = true := by decide
theorem test_B3_bne : gives (vectorAt 0x03F0 [0xD0, 0x7F] (0x00, 0x00, 0x00, 0xFD, 0x24) [])
    (0x00, 0x00, 0x00, 0xFD, 0x24) [] 0x0471 4 [] = true := by decide
theorem test_B4_beq : gives (vectorAt 0x0400 [0xF0, 0xFC] (0x00, 0x00, 0x00, 0xFD, 0x26) [])
    (0x00, 0x00, 0x00, 0xFD, 0x26) [] 0x03FE 4 [] = true := by decide
theorem test_B5_bcs : gives (vector [0xB0, 0x02] (0x00, 0x00, 0x00, 0xFD, 0x25) [])
    (0x00, 0x00, 0x00, 0xFD, 0x25) [] 0x0304 3 [] = true := by decide
theorem test_B6_bcc : gives (vector [0x90, 0x02] (0x00, 0x00, 0x00, 0xFD, 0x25) [])
    (0x00, 0x00, 0x00, 0xFD, 0x25) [] 0x0302 2 [] = true := by decide
theorem test_B7_bmi : gives (vector [0x30, 0x02] (0x00, 0x00, 0x00, 0xFD, 0xA4) [])
    (0x00, 0x00, 0x00, 0xFD, 0xA4) [] 0x0304 3 [] = true := by decide
theorem test_B8_bpl : gives (vector [0x10, 0x02] (0x00, 0x00, 0x00, 0xFD, 0xA4) [])
    (0x00, 0x00, 0x00, 0xFD, 0xA4) [] 0x0302 2 [] = true := by decide
theorem test_B9_bvs : gives (vector [0x70, 0x02] (0x00, 0x00, 0x00, 0xFD, 0x64) [])
    (0x00, 0x00, 0x00, 0xFD, 0x64) [] 0x0304 3 [] = true := by decide
theorem test_B10_bvc : gives (vector [0x50, 0x02] (0x00, 0x00, 0x00, 0xFD, 0x64) [])
    (0x00, 0x00, 0x00, 0xFD, 0x64) [] 0x0302 2 [] = true := by decide
theorem test_ST2_pha : gives (vector [0x48] (0x42, 0x00, 0x00, 0x00, 0x24) [])
    (0x42, 0x00, 0x00, 0xFF, 0x24) [(0x100, 0x42)] 0x0301 3 [] = true := by decide
theorem test_ST4_php : gives (vector [0x08] (0x00, 0x00, 0x00, 0xFD, 0xC3) [])
    (0x00, 0x00, 0x00, 0xFC, 0xC3) [(0x1FD, 0xF3)] 0x0301 3 [] = true := by decide
theorem test_ST8_pla : gives (vector [0x68] (0x00, 0x00, 0x00, 0xFF, 0x24) [(0x100, 0x7F)])
    (0x7F, 0x00, 0x00, 0x00, 0x24) [] 0x0301 4 [] = true := by decide
theorem test_ST9_plp : gives (vector [0x28] (0x00, 0x00, 0x00, 0xFC, 0x24) [(0x1FD, 0xC3)])
    (0x00, 0x00, 0x00, 0xFD, 0xE3) [] 0x0301 4 [] = true := by decide
theorem test_ST13_plp : gives ({ vector [0x28] (0x00, 0x00, 0x00, 0xFC, 0x34) [(0x1FD, 0x00)] with params := { testParams with plpBreak := .keep } })
    (0x00, 0x00, 0x00, 0xFD, 0x30) [] 0x0301 4 [] = true := by decide
theorem test_ST15_jsr : gives (vector [0x20, 0x00, 0x90] (0x00, 0x00, 0x00, 0xFD, 0x24) [])
    (0x00, 0x00, 0x00, 0xFB, 0x24) [(0x1FD, 0x03), (0x1FC, 0x02)] 0x9000 6 [] = true := by decide
theorem test_ST16_rts : gives (vector [0x60] (0x00, 0x00, 0x00, 0xFB, 0x24) [(0x1FC, 0x02), (0x1FD, 0x03)])
    (0x00, 0x00, 0x00, 0xFD, 0x24) [] 0x0303 6 [] = true := by decide
theorem test_ST17_rts : gives (vector [0x60] (0x00, 0x00, 0x00, 0xFB, 0x24) [(0x1FC, 0xFF), (0x1FD, 0xFF)])
    (0x00, 0x00, 0x00, 0xFD, 0x24) [] 0x0000 6 [] = true := by decide
theorem test_ST18_rti : gives (vector [0x40] (0x00, 0x00, 0x00, 0xFA, 0x24) [(0x1FB, 0xB4), (0x1FC, 0x07), (0x1FD, 0x80)])
    (0x00, 0x00, 0x00, 0xFD, 0xB4) [] 0x8007 6 [] = true := by decide
theorem test_ST20_brk : gives (vector [0x00] (0x00, 0x00, 0x00, 0xFD, 0xA0) [])
    (0x00, 0x00, 0x00, 0xFA, 0xA4) [(0x1FD, 0x03), (0x1FC, 0x02), (0x1FB, 0xB0)] 0x9000 7 [] = true := by decide
theorem test_ST22_jmp : gives (vector [0x4C, 0x34, 0x12] (0x00, 0x00, 0x00, 0xFD, 0x24) [])
    (0x00, 0x00, 0x00, 0xFD, 0x24) [] 0x1234 3 [] = true := by decide
theorem test_AM13_jmp : gives (vector [0x6C, 0xFF, 0x02] (0x00, 0x00, 0x00, 0xFD, 0x24) [(0x2FF, 0x20), (0x200, 0x80)])
    (0x00, 0x00, 0x00, 0xFD, 0x24) [] 0x8020 5 [] = true := by decide
theorem test_TL1_tax : gives (vector [0xAA] (0x80, 0x00, 0x00, 0xFD, 0x24) [])
    (0x80, 0x80, 0x00, 0xFD, 0xA4) [] 0x0301 2 [] = true := by decide
theorem test_TL2_tay : gives (vector [0xA8] (0x00, 0x00, 0x05, 0xFD, 0x24) [])
    (0x00, 0x00, 0x00, 0xFD, 0x26) [] 0x0301 2 [] = true := by decide
theorem test_TL3_txa : gives (vector [0x8A] (0x05, 0x00, 0x00, 0xFD, 0x24) [])
    (0x00, 0x00, 0x00, 0xFD, 0x26) [] 0x0301 2 [] = true := by decide
theorem test_TL4_tya : gives (vector [0x98] (0x00, 0x00, 0x7F, 0xFD, 0x24) [])
    (0x7F, 0x00, 0x7F, 0xFD, 0x24) [] 0x0301 2 [] = true := by decide
theorem test_TL5_tsx : gives (vector [0xBA] (0x00, 0x00, 0x00, 0xFD, 0x24) [])
    (0x00, 0xFD, 0x00, 0xFD, 0xA4) [] 0x0301 2 [] = true := by decide
theorem test_TL6_txs : gives (vector [0x9A] (0x00, 0x00, 0x00, 0xFD, 0x24) [])
    (0x00, 0x00, 0x00, 0x00, 0x24) [] 0x0301 2 [] = true := by decide
theorem test_AM9_lda : gives (vector [0xA1, 0xFE] (0x00, 0x01, 0x00, 0xFD, 0x24) [(0x00, 0x05), (0x500, 0xCD)])
    (0xCD, 0x01, 0x00, 0xFD, 0xA4) [] 0x0302 6 [] = true := by decide
theorem test_AM11_lda : gives (vector [0xB1, 0x40] (0x00, 0x00, 0x10, 0xFD, 0x24) [(0x40, 0xF0), (0x41, 0x04), (0x500, 0x01)])
    (0x01, 0x00, 0x10, 0xFD, 0x24) [] 0x0302 6 [] = true := by decide
theorem test_AM3_ldx : gives (vector [0xB6, 0xFF] (0x00, 0x00, 0x02, 0xFD, 0x24) [(0x01, 0x77)])
    (0x00, 0x77, 0x02, 0xFD, 0x24) [] 0x0302 4 [] = true := by decide
theorem test_TL8_ldy : gives (vector [0xA0, 0x80] (0x00, 0x00, 0x00, 0xFD, 0x24) [])
    (0x00, 0x00, 0x80, 0xFD, 0xA4) [] 0x0302 2 [] = true := by decide
theorem test_AM6_lda : gives (vector [0xB9, 0xFF, 0xFF] (0x00, 0x00, 0x01, 0xFD, 0x24) [(0x00, 0x33)])
    (0x33, 0x00, 0x01, 0xFD, 0x24) [] 0x0303 5 [] = true := by decide
theorem test_TL10_sta : gives (vector [0x8D, 0x00, 0x0A] (0x81, 0x00, 0x00, 0xFD, 0x24) [])
    (0x81, 0x00, 0x00, 0xFD, 0x24) [(0x200, 0x81)] 0x0303 4 [] = true := by decide
theorem test_TL12_sta : gives (vector [0x99, 0xFF, 0x04] (0x33, 0x00, 0x01, 0xFD, 0x24) [])
    (0x33, 0x00, 0x01, 0xFD, 0x24) [(0x500, 0x33)] 0x0303 5 [] = true := by decide
theorem test_TL11_stx : gives (vector [0x96, 0xFF] (0x00, 0x12, 0x02, 0xFD, 0x24) [])
    (0x00, 0x12, 0x02, 0xFD, 0x24) [(0x01, 0x12)] 0x0302 4 [] = true := by decide
theorem test_TL13_sty : gives (vector [0x8C, 0x00, 0x20] (0x00, 0x00, 0x5A, 0xFD, 0x24) [])
    (0x00, 0x00, 0x5A, 0xFD, 0x24) [] 0x0303 4 [.ppuWrite 0 0x5A] = true := by decide
theorem test_FN1_clc : gives (vector [0x18] (0x00, 0x00, 0x00, 0xFD, 0x25) [])
    (0x00, 0x00, 0x00, 0xFD, 0x24) [] 0x0301 2 [] = true := by decide
theorem test_FN2_sec : gives (vector [0x38] (0x00, 0x00, 0x00, 0xFD, 0x24) [])
    (0x00, 0x00, 0x00, 0xFD, 0x25) [] 0x0301 2 [] = true := by decide
theorem test_FN3_cli : gives (vector [0x58] (0x00, 0x00, 0x00, 0xFD, 0x24) [])
    (0x00, 0x00, 0x00, 0xFD, 0x20) [] 0x0301 2 [] = true := by decide
theorem test_FN4_sei : gives (vector [0x78] (0x00, 0x00, 0x00, 0xFD, 0x20) [])
    (0x00, 0x00, 0x00, 0xFD, 0x24) [] 0x0301 2 [] = true := by decide
theorem test_FN5_cld : gives (vector [0xD8] (0x00, 0x00, 0x00, 0xFD, 0x2C) [])
    (0x00, 0x00, 0x00, 0xFD, 0x24) [] 0x0301 2 [] = true := by decide
theorem test_FN6_sed : gives (vector [0xF8] (0x00, 0x00, 0x00, 0xFD, 0x24) [])
    (0x00, 0x00, 0x00, 0xFD, 0x2C) [] 0x0301 2 [] = true := by decide
theorem test_FN7_clv : gives (vector [0xB8] (0x00, 0x00, 0x00, 0xFD, 0x64) [])
    (0x00, 0x00, 0x00, 0xFD, 0x24) [] 0x0301 2 [] = true := by decide
theorem test_FN14_nop : gives (vector [0x1C, 0xFF, 0x12] (0x00, 0x01, 0x00, 0xFD, 0x24) [])
    (0x00, 0x01, 0x00, 0xFD, 0x24) [] 0x0303 5 [] = true := by decide
theorem test_FN13_nop : gives ({ vector [0x0C, 0x00, 0x20] (0x00, 0x00, 0x00, 0xFD, 0x24) [] with params := { testParams with nopReadsOperand := false } })
    (0x00, 0x00, 0x00, 0xFD, 0x24) [] 0x0303 4 [] = true := by decide
theorem test_U18_anc : gives (vector [0x0B, 0x80] (0xFF, 0x00, 0x00, 0xFD, 0x24) [])
    (0x80, 0x00, 0x00, 0xFD, 0xA5) [] 0x0302 2 [] = true := by decide
theorem test_U20_alr : gives (vector [0x4B, 0x03] (0xFF, 0x00, 0x00, 0xFD, 0x24) [])
    (0x01, 0x00, 0x00, 0xFD, 0x25) [] 0x0302 2 [] = true := by decide
theorem test_U22_arr : gives (vector [0x6B, 0x80] (0xFF, 0x00, 0x00, 0xFD, 0x24) [])
    (0x40, 0x00, 0x00, 0xFD, 0x65) [] 0x0302 2 [] = true := by decide
theorem test_U23_arr : gives (vector [0x6B, 0xC0] (0xFF, 0x00, 0x00, 0xFD, 0x24) [])
    (0x60, 0x00, 0x00, 0xFD, 0x25) [] 0x0302 2 [] = true := by decide
theorem test_U12_dcp : gives (vector [0xC7, 0x10] (0x05, 0x00, 0x00, 0xFD, 0x24) [(0x10, 0x11)])
    (0x05, 0x00, 0x00, 0xFD, 0xA4) [(0x10, 0x10)] 0x0302 5 [] = true := by decide
theorem test_U17_isc : gives (vector [0xF3, 0x40] (0x10, 0x00, 0x10, 0xFD, 0x25) [(0x40, 0xF0), (0x41, 0x04)])
    (0x0F, 0x00, 0x10, 0xFD, 0x25) [(0x500, 0x01)] 0x0302 8 [] = true := by decide
theorem test_U29_las : gives (vector [0xBB, 0xFF, 0x04] (0x00, 0x00, 0x01, 0x3F, 0x24) [(0x500, 0xF0)])
    (0x30, 0x30, 0x01, 0x30, 0x24) [] 0x0303 5 [] = true := by decide
theorem test_U10_lax : gives (vector [0xB3, 0x40] (0x00, 0x00, 0x10, 0xFD, 0x24) [(0x40, 0xF0), (0x41, 0x04), (0x500, 0x11)])
    (0x11, 0x11, 0x10, 0xFD, 0x24) [] 0x0302 6 [] = true := by decide
theorem test_U34_lxa : gives (vector [0xAB, 0x5A] (0x00, 0x00, 0x00, 0xFD, 0x24) [])
    (0x4A, 0x4A, 0x00, 0xFD, 0x24) [] 0x0302 2 [] = true := by decide
theorem test_U2_rla : gives (vector [0x27, 0x10] (0xFF, 0x00, 0x00, 0xFD, 0x25) [(0x10, 0x80)])
    (0x01, 0x00, 0x00, 0xFD, 0x25) [(0x10, 0x01)] 0x0302 5 [] = true := by decide
theorem test_U4_rra : gives (vector [0x67, 0x10] (0x10, 0x00, 0x00, 0xFD, 0x25) [(0x10, 0x02)])
    (0x91, 0x00, 0x00, 0xFD, 0xA4) [(0x10, 0x81)] 0x0302 5 [] = true := by decide
theorem test_U7_sax : gives (vector [0x97, 0xFF] (0xF0, 0x3C, 0x02, 0xFD, 0x24) [])
    (0xF0, 0x3C, 0x02, 0xFD, 0x24) [(0x01, 0x30)] 0x0302 4 [] = true := by decide
theorem test_U27_sbx : gives (vector [0xCB, 0x01] (0xFF, 0x0F, 0x00, 0xFD, 0x2C) [])
    (0xFF, 0x0E, 0x00, 0xFD, 0x2D) [] 0x0302 2 [] = true := by decide
theorem test_U36_shx : gives (vector [0x9E, 0x00, 0x12] (0x00, 0xFF, 0x05, 0xFD, 0x24) [])
    (0x00, 0xFF, 0x05, 0xFD, 0x24) [(0x205, 0x13)] 0x0303 5 [] = true := by decide
theorem test_U37_shx : gives (vector [0x9E, 0xF0, 0x02] (0x00, 0x01, 0x20, 0xFD, 0x24) [])
    (0x00, 0x01, 0x20, 0xFD, 0x24) [(0x110, 0x01)] 0x0303 5 [] = true := by decide
theorem test_U39_shy : gives ({ vector [0x9C, 0xF0, 0x02] (0x00, 0x20, 0x01, 0xFD, 0x24) [] with params := { testParams with shxAddrGlitch := false } })
    (0x00, 0x20, 0x01, 0xFD, 0x24) [(0x310, 0x01)] 0x0303 5 [] = true := by decide
theorem test_U43_sha : gives (vector [0x9F, 0x00, 0x04] (0x33, 0x0F, 0x00, 0xFD, 0x24) [])
    (0x33, 0x0F, 0x00, 0xFD, 0x24) [(0x400, 0x01)] 0x0303 5 [] = true := by decide
theorem test_U44_sha : gives (vector [0x93, 0x40] (0xFF, 0xFF, 0x10, 0xFD, 0x24) [(0x41, 0x04)])
    (0xFF, 0xFF, 0x10, 0xFD, 0x24) [(0x410, 0x05)] 0x0302 6 [] = true := by decide
theorem test_U41_tas : gives (vector [0x9B, 0x00, 0x02] (0xFF, 0xFF, 0x00, 0xFD, 0x24) [])
    (0xFF, 0xFF, 0x00, 0xFF, 0x24) [(0x200, 0x03)] 0x0303 5 [] = true := by decide
theorem test_U16_slo : gives (vector [0x03, 0x20] (0x00, 0x04, 0x00, 0xFD, 0x24) [(0x25, 0x05), (0x500, 0x40)])
    (0x80, 0x04, 0x00, 0xFD, 0xA4) [(0x500, 0x80)] 0x0302 8 [] = true := by decide
theorem test_U3_sre : gives (vector [0x47, 0x10] (0x01, 0x00, 0x00, 0xFD, 0x24) [(0x10, 0x03)])
    (0x00, 0x00, 0x00, 0xFD, 0x27) [(0x10, 0x01)] 0x0302 5 [] = true := by decide
theorem test_U31_ane : gives (vector [0x8B, 0x3C] (0x00, 0xFF, 0x00, 0xFD, 0x24) [])
    (0x2C, 0xFF, 0x00, 0xFD, 0x24) [] 0x0302 2 [] = true := by decide
theorem test_U45_usbc : gives (vector [0xEB, 0x03] (0x05, 0x00, 0x00, 0xFD, 0x25) [])
    (0x02, 0x00, 0x00, 0xFD, 0x25) [] 0x0302 2 [] = true := by decide

/-- U46: JAM sets `jammed` and moves PC past itself; nothing else, and the next tick has no step (R121, R321). -/
theorem test_U46_jam :
    after (vector [0x02] (1, 2, 3, 0xFD, 0x24) []) (fun t =>
      t == { vector [0x02] (1, 2, 3, 0xFD, 0x24) [] with
        jammed := true, pc := 0x0301, tickCycles := 3 } &&
      !(after t fun _ => true)) = true := by decide
/-- A jammed core has no step: the named fault (R121, log 10). -/
theorem test_jammed_fault :
    step { vector [0xEA] (0, 0, 0, 0xFD, 0x24) [] with jammed := true } = .fault .jammedCore := rfl

/-! ### The bus router. -/

theorem test_M1_lda : gives (vector [0xAD, 0x18, 0x40] (0x05, 0x00, 0x00, 0xFD, 0x24) [])
    (0x00, 0x00, 0x00, 0xFD, 0x26) [] 0x0303 4 [] = true := by decide

/-- M5: 4014 reads 0, no event.  M10: FFFC mod 4000 is 3FFC.  M13: 401F is discarded.  M11: mapper 0 ignores a write. -/
theorem test_M5_M10_M11_M13 :
    memRead 0x4014 (vector [] (0, 0, 0, 0, 0) []) = (0, vector [] (0, 0, 0, 0, 0) []) ∧
      (memRead 0xFFFC { vector [] (0, 0, 0, 0, 0) [] with
        cart := { testCart with prgRom := [(0x3FFC, 0x77)] } }).1 = 0x77 ∧
      memWrite 0x401F 1 (vector [] (0, 0, 0, 0, 0) []) = vector [] (0, 0, 0, 0, 0) [] ∧
      memWrite 0x8000 1 (vector [] (0, 0, 0, 0, 0) []) = vector [] (0, 0, 0, 0, 0) [] := by decide
/-- M4: one OAM-DMA event.  M9 with `write4016ToController`: one controller event. -/
theorem test_M4_M9_events :
    (memWrite 0x4014 2 (vector [] (0, 0, 0, 0, 0) [])).events = [.oamDma 2] ∧
      (memWrite 0x4016 1 { vector [] (0, 0, 0, 0, 0) [] with
        params := { testParams with write4016ToController := true } }).events = [.ctrlWrite 1] := by
  decide
/-- M9 with the default: nothing. -/
theorem test_M9_default : memWrite 0x4016 1 (vector [] (0, 0, 0, 0, 0) []) =
    vector [] (0, 0, 0, 0, 0) [] := by decide
/-- M6: 4017 is an APU write (C5). -/
theorem test_M6_write4017 : (memWrite 0x4017 0x40 (vector [] (0, 0, 0, 0, 0) [])).events =
    [.apuWrite 0x4017 0x40] := by decide
/-- M3: 3FFF is PPU register 7. -/
theorem test_M3_mirror : (memWrite 0x3FFF 0x5A (vector [] (0, 0, 0, 0, 0) [])).events =
    [.ppuWrite 7 0x5A] := by decide
/-- M7, M8, M12: external reads, one answer each; whatever the answer, it is the one recorded. -/
theorem test_M7_M8_M12_reads :
    (memRead 0x4017 State.reset).2.events = [.ctrlRead 1 (memRead 0x4017 State.reset).1] ∧
      (memRead 0x4016 State.reset).2.events = [.ctrlRead 0 (memRead 0x4016 State.reset).1] ∧
      (memRead 0x4015 State.reset).2.events = [.apuRead 0x4015 (memRead 0x4015 State.reset).1] :=
  ⟨rfl, rfl, rfl⟩

/-! ### Init, reset, and the instruction placed where the next fetch reads. -/

/-- Z1, Z2: reset writes SP, P and PC; A, X, Y, RAM and `jammed` stay (R376 to R378). -/
theorem test_Z1_Z2_reset :
    applyReset { vector [] (1, 2, 3, 4, 0xFF) [(5, 6)] with
      jammed := true, cart := { testCart with prgRom := [(0x3FFC, 0x34), (0x3FFD, 0x80)] } } =
    { vectorAt 0x8034 [] (1, 2, 3, 0xFD, 0x24) [(5, 6)] with
      jammed := true, cart := { testCart with prgRom := [(0x3FFC, 0x34), (0x3FFD, 0x80)] } } := by
  decide
/-- Z4 to Z7: mapper id and trainer (R372, R373). -/
theorem test_Z4_Z7_header :
    (Header.mapperId ⟨1, 0, 0x01, 0x00⟩, Header.mapperId ⟨1, 0, 0x10, 0⟩, Header.mapperId ⟨1, 0, 0x40, 0⟩,
      Header.mapperId ⟨1, 0, 0x0F, 0x0F⟩, Header.mapperId ⟨1, 0, 0x00, 0x10⟩) =
      (0, 1, 4, 0, 0x10) ∧
    Header.requiredLength ⟨1, 0, 0, 0⟩ = 16400 ∧ Header.requiredLength ⟨1, 0, 0x0F, 0x0F⟩ = 16912 ∧
    Header.requiredLength ⟨2, 1, 0, 0⟩ = 40976 := by
  decide
/-- A short file, a wrong magic, no program ROM (Z9), mapper 1 (Z5), a truncated body (Z8) (R374). -/
theorem test_Z5_Z8_Z9_failures :
    loadFailure [0x4E, 0x45, 0x53, 0x1A] = some .truncatedHeader ∧
      loadFailure [0x4E, 0x45, 0x53, 0x1B, 1, 0, 0, 0, 0, 0, 0, 0, 0, 0, 0, 0] = some .badMagic ∧
      loadFailure [0x4E, 0x45, 0x53, 0x1A, 0, 0, 0, 0, 0, 0, 0, 0, 0, 0, 0, 0] = some .emptyProgram ∧
      loadFailure [0x4E, 0x45, 0x53, 0x1A, 1, 0, 0x10, 0, 0, 0, 0, 0, 0, 0, 0, 0] =
        some (.unsupportedMapper 1) ∧
      loadFailure [0x4E, 0x45, 0x53, 0x1A, 2, 1, 0, 0, 0, 0, 0, 0, 0, 0, 0, 0] =
        some .truncatedBody := by
  decide
/-- The reset state, with the instruction of a table word placed, runs exactly that instruction. -/
theorem test_with_fetch_word :
    after (State.reset.withFetchWord 16 0x5069) (fun t => t.a == 0x50 && t.pc == 2) = true ∧
      after (State.reset.withFetchWord 24 0x12344C) (fun t => t.pc == 0x1234) = true ∧
      after (State.reset.withFetchWord 8 0x02) (fun t => t.jammed) = true := by
  decide
/-- Where PC's bytes are no RAM or ROM, the code is placed at 0 and the jam is lifted (log 23). -/
theorem test_with_fetch_word_elsewhere :
    after ({ State.reset with pc := 0x3FFE, jammed := true }.withFetchWord 16 0x5069)
      (fun t => t.a == 0x50 && t.pc == 2) = true ∧
      after ({ State.reset with pc := 0xFFFD }.withFetchWord 24 0x12344C) (fun t => t.pc == 0x1234) =
        true := by
  decide
/-- The driver adds the tick's cycles and steps the collaborators 3 and 1 times a cycle (R352, R353). -/
theorem test_driver :
    (match (Driver.start (vector [0xD0, 0x10] (0, 0, 0, 0xFD, 0x24) []) 7).tick with
      | .next d => d.cyc == 10 && d.ppuTicks == 9 && d.apuTicks == 3 &&
          d.trace == [⟨0x300, 0xD0, 0, 0, 0, 0x24, 0xFD, 7⟩]
      | .fault _ => false
      | .refused _ => false) = true := by
  decide

/-! ### Witnesses: for every obligation with hypotheses, a state and operands that meet them all (each clause apart, at a
boundary of its range).  A witness is named after its obligation. -/

open Sys2Proof.Claims

/-- ADC #50 at 0300. -/
abbrev adcState : State := vector [0x69, 0x50] (0x50, 0, 0, 0xFD, 0x24) []

/-- What `adcState` steps to (vector S6). -/
abbrev adcAfter : State :=
  { adcState with a := 0xA0, p := Status.unpack 0xE4, pc := 0x0302, tickCycles := 2 }

theorem adc_steps : step adcState = .next adcAfter := by rfl

/-- The statements over `Completes` ask for an instruction with a given opcode byte: there is one for every byte. -/
theorem witness_Completes : ∀ opc : Byte, ∃ i : Instr, i.opcode = opc :=
  fun opc => ⟨(form opc).build 0, opcode_build opc 0⟩

theorem witness_EncodeDecodeRoundTrip : decode [0x69, 0xFF, 0x00] = .ok (.adcImm 0xFF, [0x00]) := rfl

theorem witness_EncodingLayout :
    (∃ m n : Mnemonic, Instr.brk.asm = ⟨m, .imp⟩ ∨ Instr.brk.asm = ⟨n, .acc⟩) ∧
      (∃ m n : Mnemonic, Instr.aslAcc.asm = ⟨m, .imp⟩ ∨ Instr.aslAcc.asm = ⟨n, .acc⟩) ∧
      (Instr.bne 0xFF).operand ∈ ([.imm 0xFF, .zp 0xFF, .zpx 0xFF, .zpy 0xFF, .izx 0xFF, .izy 0xFF,
        .rel 0xFF] : List Operand) ∧
      (Instr.jmpInd 0xFFFF).operand ∈ ([.abs 0xFFFF, .absx 0xFFFF, .absy 0xFFFF, .ind 0xFFFF] :
        List Operand) :=
  ⟨⟨.brk, .brk, .inl rfl⟩, ⟨.asl, .asl, .inr rfl⟩, by decide, by decide⟩

theorem witness_TableRowIsTheInstructions :
    Instr.jam02.mnemonic = .jam ∧ Instr.brk.mnemonic ≠ .jam ∧ (Instr.bne 0x80).operand.mode = .rel := by
  decide

theorem witness_StepRunsDecodedInstruction :
    adcState.jammed = false ∧
      decode (bytesAtPc (Instr.adcImm 0x50).operand.mode.length { adcState with extra := 0 }).1 =
        .ok (.adcImm 0x50, []) ∧
      ∀ k (h : k < (encode (.adcImm 0x50)).length),
        byteAt adcState (adcState.pc + BitVec.ofNat 16 k) = some ((encode (.adcImm 0x50))[k]) := by
  refine ⟨rfl, rfl, ?_⟩
  intro k h
  match k, h with
  | 0, _ => rfl
  | 1, _ => rfl

/-- A three-byte instruction whose last byte is the last byte of the address space. -/
theorem witness_StepRunsDecodedInstruction_top :
    let s := { vectorAt 0xFFFD [] (0, 0, 0, 0, 0) [] with
      cart := { testCart with prgRom := [(0x3FFD, 0x4C), (0x3FFE, 0x34), (0x3FFF, 0x12)] } }
    s.jammed = false ∧
      decode (bytesAtPc 3 { s with extra := 0 }).1 = .ok (.jmpAbs 0x1234, []) :=
  ⟨rfl, rfl⟩

theorem witness_JammedCoreHasNoStep : ({ adcState with jammed := true } : State).jammed = true := rfl

theorem witness_TickNeverFails :
    adcState.jammed = false ∧ (fetched adcState).mnemonic ≠ .jam ∧
      (vector [0xF2] (0, 0, 0, 0, 0) []).jammed = false ∧
      (fetched (vector [0xF2] (0, 0, 0, 0, 0) [])).mnemonic = .jam := by
  decide

theorem witness_ProgramCounterAfterTick :
    step adcState = .next adcAfter ∧
      (fetched adcState).mnemonic ∉
        ([.bcc, .bcs, .beq, .bne, .bmi, .bpl, .bvc, .bvs, .jmp, .jsr, .rts, .rti, .brk, .jam] :
          List Mnemonic) :=
  ⟨adc_steps, by decide⟩

theorem witness_ExtraCyclesOnlyFromBranches :
    (step adcState = .next adcAfter ∧ branchTaken (fetched adcState) adcState.p = false) ∧
      after (vectorAt 0x03F0 [0xD0, 0x7F] (0, 0, 0, 0xFD, 0x24) []) (fun t => t.extra == 2) = true ∧
      branchTaken (fetched (vectorAt 0x03F0 [0xD0, 0x7F] (0, 0, 0, 0xFD, 0x24) []))
        (Status.unpack 0x24) = true :=
  ⟨⟨adc_steps, by decide⟩, by decide, by decide⟩

theorem witness_RamWindow :
    adcState.ram.wf = true ∧ (0x0000 : Addr).toNat < 0x2000 ∧ (0x1FFF : Addr).toNat < 0x2000 ∧
      (0x1FFF : Addr).toNat % 2048 = (0x07FF : Addr).toNat % 2048 ∧
      (0x1FFF : Addr).toNat % 2048 ≠ (0x0000 : Addr).toNat % 2048 := by
  decide

theorem witness_OpenBusAndTriggerReads :
    0x4018 ≤ (0x4018 : Addr).toNat ∧ (0x4018 : Addr).toNat ≤ 0x401F ∧
      0x4018 ≤ (0x401F : Addr).toNat ∧ (0x401F : Addr).toNat ≤ 0x401F := by
  decide

theorem witness_DeviceReadsAreRecordedAnswers :
    (0x2000 ≤ (0x2000 : Addr).toNat ∧ (0x2000 : Addr).toNat ≤ 0x3FFF) ∧
      (0x2000 ≤ (0x3FFF : Addr).toNat ∧ (0x3FFF : Addr).toNat ≤ 0x3FFF) ∧
      (0x4000 ≤ (0x4000 : Addr).toNat ∧ (0x4000 : Addr).toNat ≤ 0x4013) ∧
      (0x4000 ≤ (0x4013 : Addr).toNat ∧ (0x4013 : Addr).toNat ≤ 0x4013) ∧
      (0x4015 : Addr).toNat = 0x4015 ∧ (0x4016 : Addr).toNat = 0x4016 ∧
      (0x4017 : Addr).toNat = 0x4017 := by
  decide

theorem witness_DeviceWritesAreRecorded :
    (0x2000 ≤ (0x2000 : Addr).toNat ∧ (0x2000 : Addr).toNat ≤ 0x3FFF) ∧
      (0x2000 ≤ (0x3FFF : Addr).toNat ∧ (0x3FFF : Addr).toNat ≤ 0x3FFF) ∧
      (0x4000 ≤ (0x4000 : Addr).toNat ∧ (0x4000 : Addr).toNat ≤ 0x4013) ∧
      (0x4000 ≤ (0x4013 : Addr).toNat ∧ (0x4013 : Addr).toNat ≤ 0x4013) ∧
      (0x4014 : Addr).toNat = 0x4014 ∧ (0x4015 : Addr).toNat = 0x4015 ∧
      (0x4016 : Addr).toNat = 0x4016 ∧ (0x4017 : Addr).toNat = 0x4017 ∧
      adcState.params.write4016ToController = false ∧
      ({ adcState with params := { testParams with write4016ToController := true } } :
        State).params.write4016ToController = true := by
  decide

theorem witness_CartridgeWindow :
    0x4020 ≤ (0x4020 : Addr).toNat ∧ 0x4020 ≤ (0x8000 : Addr).toNat ∧
      0x8000 ≤ (0x8000 : Addr).toNat ∧ 0x8000 ≤ (0xFFFF : Addr).toNat ∧
      adcState.cart.prgUnits = 1 ∧
      ({ adcState with cart := { testCart with prgUnits := 2 } } : State).cart.prgUnits = 2 := by
  decide

theorem witness_PushThenPull : ({ adcState with sp := 0x00 } : State).ram.wf = true := by decide

theorem witness_StoreSeenByNextFetch :
    adcState.ram.wf = true ∧ (0x1FFF : Addr).toNat < 0x2000 ∧ (0x07FF : Addr).toNat < 0x2000 ∧
      (0x1FFF : Addr).toNat % 2048 = (0x07FF : Addr).toNat % 2048 ∧
      0x4020 ≤ (0x4020 : Addr).toNat ∧ 0x4020 ≤ (0xFFFF : Addr).toNat := by
  decide

/-- The pointer at 02FF, whose high byte is at 0200 (S3). -/
abbrev pointerState : State := vector [0x6C, 0xFF, 0x02] (0, 0, 0, 0xFD, 0x24) [(0x2FF, 0x20), (0x200, 0x80)]

theorem witness_PointerAddresses :
    (0x0200 : Addr).toNat = (0x02FF : Addr).toNat / 256 * 256 + ((0x02FF : Addr).toNat % 256 + 1) % 256 ∧
      byteAt pointerState 0x02FF = some 0x20 ∧ byteAt pointerState 0x0200 = some 0x80 ∧
      (∃ target : Nat, target = (pointerState.ram.read (((0xFF : Byte).toNat + pointerState.x.toNat + 1) % 256)).toNat * 256 +
        (pointerState.ram.read (((0xFF : Byte).toNat + pointerState.x.toNat) % 256)).toNat) ∧
      (∃ base : Nat, base = (pointerState.ram.read (((0xFF : Byte).toNat + 1) % 256)).toNat * 256 +
        (pointerState.ram.read (0xFF : Byte).toNat).toNat) :=
  ⟨by decide, by decide, by decide, ⟨_, rfl⟩, ⟨_, rfl⟩⟩

/-- Pointers in device registers: the last byte of a PPU page, whose high byte is at its first, and the controller ports. -/
theorem witness_PointerAddresses_device :
    ((0x3F00 : Addr).toNat = (0x3FFF : Addr).toNat / 256 * 256 + ((0x3FFF : Addr).toNat % 256 + 1) % 256 ∧
      devicePort 0x3FFF = some (.ppu 7) ∧ devicePort 0x3F00 = some (.ppu 0)) ∧
    ((0x4017 : Addr).toNat = (0x4016 : Addr).toNat / 256 * 256 + ((0x4016 : Addr).toNat % 256 + 1) % 256 ∧
      devicePort 0x4016 = some (.ctrl 0) ∧ devicePort 0x4017 = some (.ctrl 1)) ∧
    devicePort 0x4013 = some (.apu 0x4013) ∧ devicePort 0x4014 = none ∧
      devicePort 0x4015 = some (.apu 0x4015) := by
  decide

theorem witness_OperandValueAndItsFrame :
    Operand.acc = .acc ∧ (∃ v, Operand.imm 0xFF = .imm v) ∧
      (Operand.izy 0xFF).mode ≠ .imp ∧ (Operand.izy 0xFF).mode ≠ .acc ∧ (Operand.izy 0xFF).mode ≠ .imm :=
  ⟨rfl, ⟨_, rfl⟩, by decide, by decide, by decide⟩

/-- SP = 01: the third byte BRK pushes is at 01FF. -/
theorem witness_Pushes : ({ adcState with sp := 0x01 } : State).ram.wf = true := by decide

theorem witness_TrapEntry : ∃ t, exec .brk adcState = .next t := ⟨_, rfl⟩

theorem witness_Jumps :
    (0x0200 : Addr).toNat = (0x02FF : Addr).toNat / 256 * 256 + ((0x02FF : Addr).toNat % 256 + 1) % 256 ∧
      byteAt pointerState 0x02FF = some 0x20 ∧ byteAt pointerState 0x0200 = some 0x80 := by
  decide

theorem witness_JamLocksUp :
    Instr.jam02.opcode ∈ ([0x02, 0x12, 0x22, 0x32, 0x42, 0x52, 0x62, 0x72, 0x92, 0xB2, 0xD2, 0xF2] :
        List Byte) ∧
      Instr.jamF2.opcode ∈ ([0x02, 0x12, 0x22, 0x32, 0x42, 0x52, 0x62, 0x72, 0x92, 0xB2, 0xD2, 0xF2] :
        List Byte) ∧
      ({ adcState with jammed := true } : State).jammed = true := by
  decide

/-- An instruction outside each list, and a shift of memory. -/
theorem witness_RegisterWriters :
    (∃ t, exec (.aslAbs 0x1FFF) adcState = .next t) ∧
      (Instr.aslAbs 0x1FFF).operand.mode ≠ .acc ∧ (∃ t, exec .nopImpEA adcState = .next t) ∧
      Instr.nopImpEA.mnemonic ∉ ([.adc, .sbc, .and, .ora, .eor, .asl, .lsr, .rol, .ror, .lda, .pla,
        .txa, .tya, .alr, .anc, .arr, .isc, .las, .lax, .lxa, .rla, .rra, .slo, .sre, .ane, .usbc,
        .ldx, .tax, .tsx, .inx, .dex, .sbx, .ldy, .tay, .iny, .dey, .txs, .tas, .pha, .php, .plp,
        .jsr, .rts, .rti, .brk] : List Mnemonic) :=
  ⟨⟨_, rfl⟩, by decide, ⟨_, rfl⟩, by decide⟩

/-- STA is in the last list and outside every other; U is set in a reset machine. -/
theorem witness_FlagWriters :
    (∃ t, exec (.staZp 0xFF) adcState = .next t) ∧ adcState.p.u = true ∧
      (Instr.staZp 0xFF).mnemonic ∉ ([.adc, .sbc, .usbc, .asl, .lsr, .rol, .ror, .cmp, .cpx, .cpy,
        .clc, .sec, .plp, .rti, .alr, .anc, .arr, .dcp, .isc, .rla, .rra, .sbx, .slo, .sre, .sei, .cli,
        .brk, .sed, .cld, .bit, .clv] : List Mnemonic) ∧
      (Instr.staZp 0xFF).mnemonic ∈ ([.bcc, .bcs, .beq, .bne, .bmi, .bpl, .bvc, .bvs, .pha, .php, .jsr,
        .rts, .brk, .jmp, .txs, .sta, .stx, .sty, .clc, .sec, .cli, .sei, .cld, .sed, .clv, .nop, .sax,
        .sha, .shx, .shy, .tas, .jam] : List Mnemonic) :=
  ⟨⟨_, rfl⟩, by decide, by decide, by decide⟩

theorem witness_NonStoringFormsKeepMemory :
    ¬ storesAtTarget (.cmpAbs 0x1FFF) ∧ ¬ pushes (.cmpAbs 0x1FFF) ∧
      (∃ t, exec (.cmpAbs 0x1FFF) adcState = .next t) ∧
      ¬ storesAtTarget .aslAcc ∧ ¬ pushes .aslAcc ∧ (∃ t, exec .aslAcc adcState = .next t) := by
  refine ⟨?_, ?_, ⟨_, rfl⟩, ?_, ?_, ⟨_, rfl⟩⟩ <;> decide

theorem witness_StoringFormsWriteOnlyTheirTarget :
    storesAtTarget (.shxAbsy 0x02F0) ∧ (∃ t, exec (.shxAbsy 0x02F0) adcState = .next t) ∧
      region 0x0000 ≠ region (storeAddress (.shxAbsy 0x02F0) adcState) ∧
      storesAtTarget (.aslZp 0xFF) ∧ (∃ t, exec (.aslZp 0xFF) adcState = .next t) ∧
      region 0x0100 ≠ region (storeAddress (.aslZp 0xFF) adcState) := by
  refine ⟨.inl ?_, ⟨_, rfl⟩, ?_, .inr ⟨?_, ?_⟩, ⟨_, rfl⟩, ?_⟩ <;> decide

/-- SP = 00: the three bytes of BRK are 0100, 01FF and 01FE. -/
theorem witness_PushesWriteOnlyTheStack :
    let s : State := { adcState with sp := 0x00 }
    pushes .brk ∧ (∃ t, exec .brk s = .next t) ∧ region 0x01FD ≠ region (stackAddr s.sp) ∧
      region 0x01FD ≠ region (stackAddr (s.sp - 1)) ∧ region 0x01FD ≠ region (stackAddr (s.sp - 2)) ∧
      pushes .pha ∧ (∃ t, exec .pha s = .next t) := by
  refine ⟨?_, ⟨_, rfl⟩, ?_, ?_, ?_, ?_, ⟨_, rfl⟩⟩ <;> decide

theorem witness_ConstantsOfTheMachine :
    step adcState = .next adcAfter ∧
      after (vector [0x02] (0, 0, 0, 0, 0) []) (fun t => t.jammed) = true :=
  ⟨adc_steps, by decide⟩

theorem witness_StepKeepsInvariant : adcState.Inv ∧ step adcState = .next adcAfter :=
  ⟨by decide, adc_steps⟩

/-- A mapper-0 image of 16 KiB of program and 8 KiB of character ROM, the body all 02, mirroring vertical. -/
abbrev testFile : List Byte :=
  [0x4E, 0x45, 0x53, 0x1A, 1, 1, 1, 0, 0, 0, 0, 0, 0, 0, 0, 0] ++ List.replicate 24576 0x02

theorem testFile_loads : loadFailure testFile = none := by
  have hl : testFile.length = 24592 := by rw [List.length_append, List.length_replicate]; rfl
  have hh : headerOf testFile = ⟨1, 1, 1, 0⟩ := rfl
  have ht : testFile.take 4 = magic := rfl
  unfold loadFailure
  rw [hl, hh, ht]
  rfl

theorem witness_InitThenResetHasInvariant :
    let po : PowerOn := ⟨0, 0, 0, 0, 0, 0, List.replicate 2048 0x5A⟩
    (∃ s, init testParams po testFile = .ok s) ∧ 2047 < 2048 ∧ po.ram[2047]? = some 0x5A :=
  ⟨⟨_, by unfold init; rw [testFile_loads]⟩, by decide, List.getElem?_replicate_of_lt (by decide)⟩

theorem witness_ResetEffect : ({ adcState with jammed := true } : State).jammed = true := rfl

theorem witness_LoadSucceedsOrFails :
    (∃ s, init testParams ⟨0, 0, 0, 0, 0, 0, []⟩ testFile = .ok s) ∧
      0 < 16384 * (headerOf testFile).prgUnits.toNat ∧
      16383 < 16384 * (headerOf testFile).prgUnits.toNat ∧
      8191 < 8192 * (headerOf testFile).chrUnits.toNat ∧
      (headerOf testFile).ctrl1.getLsbD 0 = true :=
  ⟨⟨_, by unfold init; rw [testFile_loads]⟩, by decide, by decide, by decide, rfl⟩

theorem witness_TrapThenReturnResumes :
    ({ adcState with sp := 0x01 } : State).ram.wf = true ∧
      ∃ t, exec .brk { adcState with sp := 0x01 } = .next t ∧
        ∃ u : State, u.ram = t.ram ∧ u.sp = t.sp ∧ u.params = adcState.params :=
  ⟨by decide, _, rfl, { adcState with ram := _, sp := _ }, rfl, rfl, rfl⟩

theorem witness_CallThenReturnResumes :
    ({ adcState with sp := 0x00 } : State).ram.wf = true ∧
      ∃ t, exec (.jsrAbs 0xFFFF) { adcState with sp := 0x00 } = .next t ∧
        ∃ u : State, u.ram = t.ram ∧ u.sp = t.sp :=
  ⟨by decide, _, rfl, _, rfl, rfl⟩

theorem witness_DecimalFlagIsInert :
    (Instr.adcImm 0xFF).mnemonic ∉ ([.cld, .sed, .plp, .rti, .php, .brk] : List Mnemonic) := by
  decide

theorem witness_DriverCountsCycles : step (Driver.start adcState 7).machine = .next adcAfter := adc_steps

end Sys2Proof.Tests
end

section
/-! PROOF. P.D is inert (00_scope R5, 10_state R39, 42_arith_logic R177).  Setting D before an operation is the
same as setting it after: the rule is proved for each bus operation, lifted to each access pattern, and read off
for every instruction that does not name D. -/

open Sys2Proof Sys2Proof.Machine Sys2Proof.Claims

namespace Sys2Proof.DecimalFlag

/-- An update of the state that neither reads nor writes D. -/
def IgnoresD (f : State → State) : Prop := ∀ d s, f (withD d s) = withD d (f s)

/-- The same of an operation that also answers a byte, which does not depend on D either. -/
def AnswerIgnoresD (f : State → Byte × State) : Prop :=
  ∀ d s, f (withD d s) = ((f s).1, withD d (f s).2)

/-- An instruction's run whose outcome depends on D in D only. -/
def RunIgnoresD (run : State → Result) : Prop := ∀ d s, run (withD d s) = outcomeWithD d (run s)

/-! ### The shared operations. -/

section
variable (d : Bool) (s : State)

@[simp] theorem withD_a : (withD d s).a = s.a := rfl
@[simp] theorem withD_x : (withD d s).x = s.x := rfl
@[simp] theorem withD_y : (withD d s).y = s.y := rfl
@[simp] theorem withD_sp : (withD d s).sp = s.sp := rfl
@[simp] theorem withD_pc : (withD d s).pc = s.pc := rfl
@[simp] theorem withD_params : (withD d s).params = s.params := rfl

@[simp] theorem setA_withD (v : Byte) : (withD d s).setA v = withD d (s.setA v) := rfl
@[simp] theorem setNZ_withD (v : Byte) : (withD d s).setNZ v = withD d (s.setNZ v) := rfl
@[simp] theorem setSp_withD (v : Byte) : (withD d s).setSp v = withD d (s.setSp v) := rfl
@[simp] theorem setPc_withD (v : Addr) : (withD d s).setPc v = withD d (s.setPc v) := rfl

@[simp] theorem memRead_withD (a : Addr) :
    memRead a (withD d s) = ((memRead a s).1, withD d (memRead a s).2) := by
  unfold memRead
  cases region a <;> rfl

@[simp] theorem memWrite_withD (a : Addr) (v : Byte) :
    memWrite a v (withD d s) = withD d (memWrite a v s) := by
  unfold memWrite
  cases region a
  case ctrl0 => simp only [apply_ite (withD d)]; rfl
  all_goals rfl

@[simp] theorem push_withD (v : Byte) : push v (withD d s) = withD d (push v s) := by
  simp [push]

@[simp] theorem pull_withD : pull (withD d s) = ((pull s).1, withD d (pull s).2) := by
  simp [pull]

@[simp] theorem readPointer_withD (p : Addr) :
    readPointer p (withD d s) = ((readPointer p s).1, withD d (readPointer p s).2) := by
  simp [readPointer]

@[simp] theorem resolve_withD (o : Operand) :
    resolve o (withD d s) = ((resolve o s).1, withD d (resolve o s).2) := by
  cases o <;> simp [resolve]

@[simp] theorem operandByte_withD (o : Operand) (r : Resolved) :
    operandByte o r (withD d s) = ((operandByte o r s).1, withD d (operandByte o r s).2) := by
  cases o <;> simp [operandByte]

@[simp] theorem endTick_withD (opc : Byte) (crossed : Bool) :
    endTick opc crossed (withD d s) = outcomeWithD d (endTick opc crossed s) := rfl

@[simp] theorem branchTo_withD (cond : Bool) (ea : Addr) :
    branchTo cond ea (withD d s) = withD d (branchTo cond ea s) := by
  cases cond <;> rfl

@[simp] theorem shxStore_withD (v0 : Byte) (r : Resolved) :
    shxStore v0 r (withD d s) = withD d (shxStore v0 r s) := by
  simp [shxStore]

@[simp] theorem nopReads_withD (o : Operand) : nopReads o (withD d s) = nopReads o s := rfl

end

/-! ### The handlers.  One that updates registers and flags other than D by name ignores D by definition; named here
are the add core, which R177 is about, and the handlers that use the stack. -/

/-- The add core is binary whatever D holds (R177). -/
theorem addCore_ignoresD (m : Byte) : IgnoresD (addCore m) := fun _ _ => rfl

theorem opPha_ignoresD : IgnoresD opPha := fun d s => push_withD d s s.a

theorem opPla_ignoresD : IgnoresD opPla := fun d s => by simp [opPla]

theorem opRts_ignoresD : IgnoresD opRts := fun d s => by simp [opRts]

/-! ### The access patterns. -/

section
variable {opc : Byte} {o : Operand}

theorem impliedInstr_ignoresD {h : State → State} (hh : IgnoresD h) :
    RunIgnoresD (impliedInstr opc h) := fun d s => by
  simp [impliedInstr, hh d s]

theorem readInstr_ignoresD {h : Byte → State → State} (hh : ∀ m, IgnoresD (h m)) :
    RunIgnoresD (readInstr opc h o) := fun d s => by
  simp [readInstr, hh _ d _]

theorem storeInstr_ignoresD {value : State → Byte} (hv : ∀ d s, value (withD d s) = value s) :
    RunIgnoresD (storeInstr opc value o) := fun d s => by
  simp [storeInstr, hv]

theorem rmwInstr_ignoresD {f : Byte → State → Byte × State} {after : Byte → State → State}
    (hf : ∀ v, AnswerIgnoresD (f v)) (ha : ∀ v, IgnoresD (after v)) :
    RunIgnoresD (rmwInstr opc f after o) := fun d s => by
  cases o <;> simp [rmwInstr, hf _ d _, ha _ d _]

theorem shxInstr_ignoresD {first : State → State} {value : State → Byte} (hf : IgnoresD first)
    (hv : ∀ d s, value (withD d s) = value s) : RunIgnoresD (shxInstr opc first value o) :=
  fun d s => by simp [shxInstr, hf d _, hv]

variable (opc o)

theorem nopInstr_ignoresD : RunIgnoresD (nopInstr opc o) := fun d s => by
  simp [nopInstr, ← apply_ite (withD d)]

theorem branchInstr_ignoresD (cond : Bool) : RunIgnoresD (branchInstr opc cond o) := fun d s => by
  simp [branchInstr]

theorem jmpInstr_ignoresD : RunIgnoresD (jmpInstr opc o) := fun d s => by
  simp [jmpInstr]

theorem jsrInstr_ignoresD : RunIgnoresD (jsrInstr opc o) := fun d s => by
  simp [jsrInstr]

end

/-! ### Every instruction. -/

/-- An instruction that does not name D runs alike whatever D holds, by its access pattern. -/
theorem exec_ignoresD (i : Instr)
    (hi : i.mnemonic ∉ ([.cld, .sed, .plp, .rti, .php, .brk] : List Mnemonic)) :
    RunIgnoresD (exec i) := by
  unfold exec
  cases i
  case adcImm | adcZp | adcZpx | adcAbs | adcAbsx | adcAbsy | adcIzx | adcIzy =>
    exact readInstr_ignoresD addCore_ignoresD
  case sbcImm | sbcZp | sbcZpx | sbcAbs | sbcAbsx | sbcAbsy | sbcIzx | sbcIzy | usbcImm =>
    exact readInstr_ignoresD fun m => addCore_ignoresD (~~~m)
  case andImm | andZp | andZpx | andAbs | andAbsx | andAbsy | andIzx | andIzy | oraImm | oraZp
  | oraZpx | oraAbs | oraAbsx | oraAbsy | oraIzx | oraIzy | eorImm | eorZp | eorZpx | eorAbs
  | eorAbsx | eorAbsy | eorIzx | eorIzy | bitZp | bitAbs | cmpImm | cmpZp | cmpZpx | cmpAbs
  | cmpAbsx | cmpAbsy | cmpIzx | cmpIzy | cpxImm | cpxZp | cpxAbs | cpyImm | cpyZp | cpyAbs
  | ldaImm | ldaZp | ldaZpx | ldaAbs | ldaAbsx | ldaAbsy | ldaIzx | ldaIzy | ldxImm | ldxZp
  | ldxZpy | ldxAbs | ldxAbsy | ldyImm | ldyZp | ldyZpx | ldyAbs | ldyAbsx | alrImm | ancImm0B
  | ancImm2B | arrImm | lasAbsy | laxZp | laxZpy | laxAbs | laxAbsy | laxIzx | laxIzy | lxaImm
  | sbxImm | aneImm =>
    exact readInstr_ignoresD fun _ _ _ => rfl
  case rraZp | rraZpx | rraAbs | rraAbsx | rraAbsy | rraIzx | rraIzy =>
    exact rmwInstr_ignoresD (fun _ _ _ => rfl) addCore_ignoresD
  case iscZp | iscZpx | iscAbs | iscAbsx | iscAbsy | iscIzx | iscIzy =>
    exact rmwInstr_ignoresD (fun _ _ _ => rfl) fun m => addCore_ignoresD (~~~m)
  case aslAcc | aslZp | aslZpx | aslAbs | aslAbsx | lsrAcc | lsrZp | lsrZpx | lsrAbs | lsrAbsx
  | rolAcc | rolZp | rolZpx | rolAbs | rolAbsx | rorAcc | rorZp | rorZpx | rorAbs | rorAbsx
  | incZp | incZpx | incAbs | incAbsx | decZp | decZpx | decAbs | decAbsx | dcpZp | dcpZpx
  | dcpAbs | dcpAbsx | dcpAbsy | dcpIzx | dcpIzy | rlaZp | rlaZpx | rlaAbs | rlaAbsx | rlaAbsy
  | rlaIzx | rlaIzy | sloZp | sloZpx | sloAbs | sloAbsx | sloAbsy | sloIzx | sloIzy | sreZp
  | sreZpx | sreAbs | sreAbsx | sreAbsy | sreIzx | sreIzy =>
    exact rmwInstr_ignoresD (fun _ _ _ => rfl) fun _ _ _ => rfl
  case staZp | staZpx | staAbs | staAbsx | staAbsy | staIzx | staIzy | stxZp | stxZpy | stxAbs
  | styZp | styZpx | styAbs | saxZp | saxZpy | saxAbs | saxIzx =>
    exact storeInstr_ignoresD fun _ _ => rfl
  case shaAbsy | shaIzy | shxAbsy | shyAbsx | tasAbsy =>
    exact shxInstr_ignoresD (fun _ _ => rfl) fun _ _ => rfl
  case nopImp1A | nopImp3A | nopImp5A | nopImp7A | nopImpDA | nopImpEA | nopImpFA | nopImm80
  | nopImm82 | nopImm89 | nopImmC2 | nopImmE2 | nopZp04 | nopZp44 | nopZp64 | nopZpx14 | nopZpx34
  | nopZpx54 | nopZpx74 | nopZpxD4 | nopZpxF4 | nopAbs0C | nopAbsx1C | nopAbsx3C | nopAbsx5C
  | nopAbsx7C | nopAbsxDC | nopAbsxFC =>
    exact nopInstr_ignoresD _ _
  case bcc | bcs | beq | bne | bmi | bpl | bvc | bvs =>
    exact fun d s => branchInstr_ignoresD _ _ _ d s
  case jmpAbs | jmpInd => exact jmpInstr_ignoresD _ _
  case jsrAbs => exact jsrInstr_ignoresD _ _
  case pha => exact impliedInstr_ignoresD opPha_ignoresD
  case pla => exact impliedInstr_ignoresD opPla_ignoresD
  case rts => exact impliedInstr_ignoresD opRts_ignoresD
  case inx | iny | dex | dey | tax | tay | txa | tya | tsx | txs | clc | sec | cli | sei | clv
  | jam02 | jam12 | jam22 | jam32 | jam42 | jam52 | jam62 | jam72 | jam92 | jamB2 | jamD2 | jamF2 =>
    exact impliedInstr_ignoresD fun _ _ => rfl
  case cld | sed | plp | rti | php | brk => exact absurd (by decide) hi

/-- Settles O59: every instruction that does not name D ignores it. -/
theorem decimalFlagIsInert : Obligations.DecimalFlagIsInert :=
  fun i s d hi => exec_ignoresD i hi d s

end Sys2Proof.DecimalFlag
end

section
/-! PROOF. What runs an instruction: of its constructor `exec` looks only at the mnemonic, the opcode byte and the operand, so a
fact about every instruction is a case split over the 77 mnemonics (30_encoding R110, 40_dispatch R125). -/

open Sys2Proof.Machine

namespace Sys2Proof

/-- The access pattern and the handler a mnemonic names, run at an opcode byte and an operand. -/
def Mnemonic.run (m : Mnemonic) (opc : Byte) (o : Operand) (s : State) : Result :=
  match m with
  | .adc => readInstr opc addCore o s
  | .sbc => readInstr opc opSbc o s
  | .usbc => readInstr opc opUsbc o s
  | .and => readInstr opc opAnd o s
  | .ora => readInstr opc opOra o s
  | .eor => readInstr opc opEor o s
  | .bit => readInstr opc opBit o s
  | .cmp => readInstr opc opCmp o s
  | .cpx => readInstr opc opCpx o s
  | .cpy => readInstr opc opCpy o s
  | .lda => readInstr opc opLda o s
  | .ldx => readInstr opc opLdx o s
  | .ldy => readInstr opc opLdy o s
  | .alr => readInstr opc opAlr o s
  | .anc => readInstr opc opAnc o s
  | .arr => readInstr opc opArr o s
  | .las => readInstr opc opLas o s
  | .lax => readInstr opc opLax o s
  | .lxa => readInstr opc opLxa o s
  | .sbx => readInstr opc opSbx o s
  | .ane => readInstr opc opAne o s
  | .asl => rmwInstr opc stepAsl noFollowUp o s
  | .lsr => rmwInstr opc stepLsr noFollowUp o s
  | .rol => rmwInstr opc stepRol noFollowUp o s
  | .ror => rmwInstr opc stepRor noFollowUp o s
  | .inc => rmwInstr opc stepInc noFollowUp o s
  | .dec => rmwInstr opc stepDec noFollowUp o s
  | .slo => rmwInstr opc stepAsl opOra o s
  | .sre => rmwInstr opc stepLsr opEor o s
  | .rla => rmwInstr opc stepRol opAnd o s
  | .rra => rmwInstr opc stepRor addCore o s
  | .isc => rmwInstr opc stepInc opSbc o s
  | .dcp => rmwInstr opc stepDec opCmp o s
  | .sta => storeInstr opc State.a o s
  | .stx => storeInstr opc State.x o s
  | .sty => storeInstr opc State.y o s
  | .sax => storeInstr opc saxValue o s
  | .sha => shxInstr opc keepSp shaValue o s
  | .shx => shxInstr opc keepSp State.x o s
  | .shy => shxInstr opc keepSp State.y o s
  | .tas => shxInstr opc tasSp State.sp o s
  | .nop => nopInstr opc o s
  | .bcc => branchInstr opc (!s.p.c) o s
  | .bcs => branchInstr opc s.p.c o s
  | .beq => branchInstr opc s.p.z o s
  | .bne => branchInstr opc (!s.p.z) o s
  | .bmi => branchInstr opc s.p.n o s
  | .bpl => branchInstr opc (!s.p.n) o s
  | .bvc => branchInstr opc (!s.p.v) o s
  | .bvs => branchInstr opc s.p.v o s
  | .jmp => jmpInstr opc o s
  | .jsr => jsrInstr opc o s
  | .inx => impliedInstr opc opInx s
  | .iny => impliedInstr opc opIny s
  | .dex => impliedInstr opc opDex s
  | .dey => impliedInstr opc opDey s
  | .tax => impliedInstr opc opTax s
  | .tay => impliedInstr opc opTay s
  | .txa => impliedInstr opc opTxa s
  | .tya => impliedInstr opc opTya s
  | .tsx => impliedInstr opc opTsx s
  | .txs => impliedInstr opc opTxs s
  | .clc => impliedInstr opc opClc s
  | .sec => impliedInstr opc opSec s
  | .cli => impliedInstr opc opCli s
  | .sei => impliedInstr opc opSei s
  | .cld => impliedInstr opc opCld s
  | .sed => impliedInstr opc opSed s
  | .clv => impliedInstr opc opClv s
  | .pha => impliedInstr opc opPha s
  | .php => impliedInstr opc opPhp s
  | .pla => impliedInstr opc opPla s
  | .plp => impliedInstr opc opPlp s
  | .rts => impliedInstr opc opRts s
  | .rti => impliedInstr opc returnFromTrap s
  | .brk => impliedInstr opc takeTrap s
  | .jam => impliedInstr opc opJam s

/-- An instruction is run by its mnemonic, at its opcode byte and operand. -/
theorem exec_eq_run (i : Instr) (s : State) :
    exec i s = i.mnemonic.run i.opcode i.operand s := by
  cases i <;> rfl

end Sys2Proof
end

section
/-! PROOF. Which parts of the state an instruction can change (10_state R30 to R44): the writers of each part, and one
frame over every instruction from which the register, flag and machine statements and the invariant are read off. -/

open Sys2Proof Sys2Proof.Machine Sys2Proof.Claims

namespace Sys2Proof.Writers

/-- A part of the state that only the instructions its rule lists can change. -/
inductive Part where
  | a
  | x
  | y
  | sp
  | c
  | z
  | i
  | d
  | b
  | u
  | v
  | n
  | jammed

/-- The mnemonics that write N and Z: those that do setNZ, BIT, and the two that restore P (R37, R43). -/
def nzWriters : List Mnemonic :=
  [.adc, .sbc, .usbc, .and, .ora, .eor, .bit, .asl, .lsr, .rol, .ror, .cmp, .cpx, .cpy, .inc, .dec, .inx, .iny,
    .dex, .dey, .pla, .plp, .rti, .tax, .tay, .txa, .tya, .tsx, .lda, .ldx, .ldy, .alr, .anc, .arr, .dcp, .isc,
    .las, .lax, .lxa, .rla, .rra, .sbx, .slo, .sre, .ane]

/-- The mnemonics that write a part (R30 to R44). -/
def Part.writers : Part → List Mnemonic
  | .a => [.adc, .sbc, .and, .ora, .eor, .asl, .lsr, .rol, .ror, .lda, .pla, .txa, .tya,
      .alr, .anc, .arr, .isc, .las, .lax, .lxa, .rla, .rra, .slo, .sre, .ane, .usbc]
  | .x => [.ldx, .tax, .tsx, .inx, .dex, .lax, .las, .lxa, .sbx]
  | .y => [.ldy, .tay, .iny, .dey]
  | .sp => [.txs, .las, .tas, .pha, .php, .pla, .plp, .jsr, .rts, .rti, .brk]
  | .c => [.adc, .sbc, .usbc, .asl, .lsr, .rol, .ror, .cmp, .cpx, .cpy, .clc, .sec, .plp, .rti,
      .alr, .anc, .arr, .dcp, .isc, .rla, .rra, .sbx, .slo, .sre]
  | .z => nzWriters
  | .i => [.sei, .cli, .brk, .plp, .rti]
  | .d => [.sed, .cld, .plp, .rti]
  | .b => [.plp, .rti]
  | .u => [.plp, .rti]
  | .v => [.adc, .sbc, .usbc, .rra, .isc, .bit, .arr, .clv, .plp, .rti]
  | .n => nzWriters
  | .jammed => [.jam]

/-- The mnemonics that write A under Accumulator mode only (R30, R190). -/
def accumulatorShifts : List Mnemonic := [.asl, .lsr, .rol, .ror]

theorem accumulatorShifts_subset_writers : accumulatorShifts ⊆ Part.writers .a := by decide

/-- Whether a mnemonic may write a part, under Accumulator mode or not. -/
def mayWrite (m : Mnemonic) (acc : Bool) : Part → Bool
  | .a => (Part.writers .a).contains m && !accumulatorShifts.contains m || acc
  | p => p.writers.contains m

/-- The parts an instruction may write. -/
def writes (i : Instr) : Part → Bool := mayWrite i.mnemonic (i.operand.mode == .acc)

/-- The mnemonics that leave N and Z alone are not writers of them. -/
theorem keepsNZ_notMem_nzWriters :
    ∀ m ∈ ([.bcc, .bcs, .beq, .bne, .bmi, .bpl, .bvc, .bvs, .pha, .php, .jsr, .rts, .brk, .jmp,
      .txs, .sta, .stx, .sty, .clc, .sec, .cli, .sei, .cld, .sed, .clv, .nop, .sax, .sha, .shx, .shy,
      .tas, .jam] : List Mnemonic), m ∉ nzWriters := by
  decide

/-- What is left of a state without the parts in `w`, PC, RAM and the outputs of the tick. -/
def forget (w : Part → Bool) (s : State) : State where
  a := if w .a then 0 else s.a
  x := if w .x then 0 else s.x
  y := if w .y then 0 else s.y
  sp := if w .sp then 0 else s.sp
  pc := 0
  p :=
    { c := if w .c then false else s.p.c
      z := if w .z then false else s.p.z
      i := if w .i then false else s.p.i
      d := if w .d then false else s.p.d
      b := if w .b then false else s.p.b
      u := if w .u then false else s.p.u
      v := if w .v then false else s.p.v
      n := if w .n then false else s.p.n }
  jammed := if w .jammed then false else s.jammed
  extra := 0
  ram := []
  cart := s.cart
  events := []
  extReads := 0
  tickCycles := 0
  params := s.params

/-- What a part holds. -/
abbrev Part.Value : Part → Type
  | .a | .x | .y | .sp => Byte
  | _ => Bool

/-- The part of a state. -/
def Part.read : (p : Part) → State → p.Value
  | .a, s => s.a
  | .x, s => s.x
  | .y, s => s.y
  | .sp, s => s.sp
  | .c, s => s.p.c
  | .z, s => s.p.z
  | .i, s => s.p.i
  | .d, s => s.p.d
  | .b, s => s.p.b
  | .u, s => s.p.u
  | .v, s => s.p.v
  | .n, s => s.p.n
  | .jammed, s => s.jammed

/-- Forgetting `w` leaves every part outside `w`. -/
theorem read_forget {w : Part → Bool} {p : Part} (hp : w p = false) (s : State) :
    p.read (forget w s) = p.read s := by
  cases p <;> simp [Part.read, forget, hp]

/-- From `s` to `t` only the parts in `w` changed, of those `forget` keeps track of, and P.U did not fall. -/
structure WritesOnly (w : Part → Bool) (s t : State) : Prop where
  rest : forget w t = forget w s
  u_stays : s.p.u = true → t.p.u = true

namespace WritesOnly

variable {w : Part → Bool} {s t u : State}

theorem refl (s : State) : WritesOnly w s s := ⟨rfl, id⟩

theorem trans (h : WritesOnly w s t) (k : WritesOnly w t u) : WritesOnly w s u :=
  ⟨k.rest.trans h.rest, k.u_stays ∘ h.u_stays⟩

/-- A part outside `w` is as it was. -/
theorem read (h : WritesOnly w s t) {p : Part} (hp : w p = false) : p.read t = p.read s := by
  rw [← read_forget hp t, h.rest, read_forget hp s]

/-- Whatever `w` is, the cartridge is as it was (R48). -/
theorem cart (h : WritesOnly w s t) : t.cart = s.cart :=
  (congrArg State.cart h.rest :)

/-- Whatever `w` is, the parameters are as they were (R7). -/
theorem params (h : WritesOnly w s t) : t.params = s.params :=
  (congrArg State.params h.rest :)

end WritesOnly

/-! ### The shared operations. -/

section
variable {w : Part → Bool}

theorem memRead_writesOnly (a : Addr) (s : State) : WritesOnly w s (memRead a s).2 :=
  ⟨by simp [forget], by simp⟩

theorem memWrite_writesOnly (a : Addr) (v : Byte) (s : State) : WritesOnly w s (memWrite a v s) :=
  ⟨by simp [forget], by simp⟩

theorem read16_writesOnly (a : Addr) (s : State) : WritesOnly w s (read16 a s).2 :=
  ⟨by simp [forget], by simp⟩

theorem resolve_writesOnly (o : Operand) (s : State) : WritesOnly w s (resolve o s).2 :=
  ⟨by simp [forget], by simp⟩

theorem operandByte_writesOnly (o : Operand) (r : Resolved) (s : State) :
    WritesOnly w s (operandByte o r s).2 :=
  ⟨by simp [forget], by simp⟩

theorem fetchInstr_writesOnly (s : State) : WritesOnly w s (fetchInstr s).2 :=
  ⟨by simp [forget], by simp⟩

theorem push_writesOnly (hsp : w .sp = true) (v : Byte) (s : State) : WritesOnly w s (push v s) :=
  ⟨by simp [forget, hsp], by simp⟩

theorem pull_writesOnly (hsp : w .sp = true) (s : State) : WritesOnly w s (pull s).2 :=
  ⟨by simp [forget, hsp], by simp⟩

/-- PC is no part: the control transfers write it freely (R34). -/
theorem setPc_writesOnly (v : Addr) (s : State) : WritesOnly w s (s.setPc v) := ⟨rfl, id⟩

theorem branchTo_writesOnly (cond : Bool) (ea : Addr) (s : State) :
    WritesOnly w s (branchTo cond ea s) := by
  cases cond <;> exact ⟨rfl, id⟩

/-- BRK writes SP and I (R249). -/
theorem takeTrap_writesOnly (hsp : w .sp = true) (hi : w .i = true) (s : State) :
    WritesOnly w s (takeTrap s) := by
  have hset : ∀ u, WritesOnly w u (u.setI true) := fun _ => ⟨by simp [forget, State.setI, hi], id⟩
  have hpushed := ((push_writesOnly hsp (hi8 (s.pc + 1)) s).trans
    (push_writesOnly hsp (lo8 (s.pc + 1)) _)).trans (push_writesOnly hsp (pushImage s.p) _)
  exact ((hpushed.trans (hset _)).trans (read16_writesOnly brkVector _)).trans (setPc_writesOnly _ _)

/-- Whoever may write all of P may restore it, for that leaves U at 1 (R241). -/
theorem restore_writesOnly (hp : ∀ q u, forget w (State.setP q u) = forget w u) (mode : PlpBreak)
    (old : Status) (v : Byte) (s : State) : WritesOnly w s (s.setP (restoreStatus mode old v)) :=
  ⟨hp _ s, fun _ => rfl⟩

theorem opPlp_writesOnly (hsp : w .sp = true)
    (hp : ∀ q u, forget w (State.setP q u) = forget w u) (s : State) : WritesOnly w s (opPlp s) :=
  (pull_writesOnly hsp s).trans (restore_writesOnly hp s.params.plpBreak s.p (pull s).1 _)

/-- RTI writes SP and P (R248). -/
theorem returnFromTrap_writesOnly (hsp : w .sp = true)
    (hp : ∀ q u, forget w (State.setP q u) = forget w u) (s : State) :
    WritesOnly w s (returnFromTrap s) := by
  have hrestored : WritesOnly w s
      ((pull s).2.setP (restoreStatus s.params.plpBreak s.p (pull s).1)) := opPlp_writesOnly hsp hp s
  unfold returnFromTrap
  exact ((hrestored.trans (pull_writesOnly hsp _)).trans (pull_writesOnly hsp _)).trans
    (setPc_writesOnly _ _)

end

/-! ### The access patterns. -/

/-- A run that, when it answers a next state, wrote only the parts in `w`. -/
def RunWritesOnly (w : Part → Bool) (run : State → Result) : Prop :=
  ∀ ⦃s t : State⦄, run s = .next t → WritesOnly w s t

section
variable {w : Part → Bool} {opc : Byte} {o : Operand}

theorem endTick_writesOnly {crossed : Bool} {s u t : State} (h : WritesOnly w s u)
    (ht : endTick opc crossed u = .next t) : WritesOnly w s t := by
  cases ht
  exact h.trans ⟨rfl, id⟩

theorem impliedInstr_writesOnly {f : State → State} (hf : ∀ u, WritesOnly w u (f u)) :
    RunWritesOnly w (impliedInstr opc f) :=
  fun s _ => endTick_writesOnly (hf s)

theorem readInstr_writesOnly {f : Byte → State → State} (hf : ∀ m u, WritesOnly w u (f m u)) :
    RunWritesOnly w (readInstr opc f o) :=
  fun s _ => endTick_writesOnly
    (((resolve_writesOnly o s).trans (operandByte_writesOnly o _ _)).trans (hf _ _))

theorem storeInstr_writesOnly {value : State → Byte} : RunWritesOnly w (storeInstr opc value o) :=
  fun s _ => endTick_writesOnly ((resolve_writesOnly o s).trans (memWrite_writesOnly _ _ _))

/-- A read-modify-write of memory or, under Accumulator mode, of A (R154, R190). -/
theorem rmwInstr_writesOnly {f : Byte → State → Byte × State} {after : Byte → State → State}
    (hf : ∀ v u, WritesOnly w u (f v u).2) (ha : ∀ v u, WritesOnly w u (after v u))
    (hacc : o.mode = .acc → w .a = true) : RunWritesOnly w (rmwInstr opc f after o) := by
  intro s t
  cases o
  case acc =>
    have hset : ∀ v u, WritesOnly w u (State.setA v u) := fun _ _ => ⟨by simp [forget, hacc rfl], id⟩
    exact endTick_writesOnly (((hf s.a s).trans (hset _ _)).trans (ha _ _))
  all_goals
    exact endTick_writesOnly ((((resolve_writesOnly _ s).trans (memRead_writesOnly _ _)).trans
      (hf _ _)).trans ((memWrite_writesOnly _ _ _).trans (ha _ _)))

theorem shxInstr_writesOnly {first : State → State} {value : State → Byte}
    (hf : ∀ u, WritesOnly w u (first u)) : RunWritesOnly w (shxInstr opc first value o) :=
  fun s _ => endTick_writesOnly
    (((resolve_writesOnly o s).trans (hf _)).trans (memWrite_writesOnly _ _ _))

theorem nopInstr_writesOnly : RunWritesOnly w (nopInstr opc o) := by
  intro s t
  refine endTick_writesOnly ((resolve_writesOnly o s).trans ?_)
  split
  · exact memRead_writesOnly _ _
  · exact .refl _

theorem branchInstr_writesOnly {cond : Bool} : RunWritesOnly w (branchInstr opc cond o) :=
  fun s _ => endTick_writesOnly ((resolve_writesOnly o s).trans (branchTo_writesOnly _ _ _))

theorem jmpInstr_writesOnly : RunWritesOnly w (jmpInstr opc o) :=
  fun s _ => endTick_writesOnly ((resolve_writesOnly o s).trans (setPc_writesOnly _ _))

theorem jsrInstr_writesOnly (hsp : w .sp = true) : RunWritesOnly w (jsrInstr opc o) :=
  fun s _ => endTick_writesOnly ((resolve_writesOnly o s).trans
    (((push_writesOnly hsp _ _).trans (push_writesOnly hsp _ _)).trans (setPc_writesOnly _ _)))

end

/-! ### Every instruction. -/

/-- A mnemonic writes only parts whose rule lists it.  A handler that updates registers and flags by name does so by
definition; the others are the shared operations above. -/
theorem run_writesOnly (m : Mnemonic) (opc : Byte) (o : Operand) :
    RunWritesOnly (mayWrite m (o.mode == .acc)) (m.run opc o) := by
  have hacc : o.mode = .acc → mayWrite m (o.mode == .acc) .a = true := fun ho => by
    simp [mayWrite, ho]
  cases m
  case adc | sbc | usbc | and | ora | eor | bit | cmp | cpx | cpy | lda | ldx | ldy | alr | anc | arr | las
  | lax | lxa | sbx | ane =>
    exact readInstr_writesOnly fun _ _ => ⟨rfl, id⟩
  case asl | lsr | rol | ror | inc | dec =>
    exact rmwInstr_writesOnly (fun _ _ => ⟨rfl, id⟩) (fun _ => .refl) hacc
  case slo | sre | rla | rra | isc | dcp =>
    exact rmwInstr_writesOnly (fun _ _ => ⟨rfl, id⟩) (fun _ _ => ⟨rfl, id⟩) hacc
  case sta | stx | sty | sax => exact storeInstr_writesOnly
  case sha | shx | shy | tas => exact shxInstr_writesOnly fun _ => ⟨rfl, id⟩
  case nop => exact nopInstr_writesOnly
  case bcc | bcs | beq | bne | bmi | bpl | bvc | bvs => exact fun _ _ h => branchInstr_writesOnly h
  case jmp => exact jmpInstr_writesOnly
  case jsr => exact jsrInstr_writesOnly rfl
  case inx | iny | dex | dey | tax | tay | txa | tya | tsx | txs | clc | sec | cli | sei | cld | sed | clv
  | jam =>
    exact impliedInstr_writesOnly fun _ => ⟨rfl, id⟩
  case pha | php => exact impliedInstr_writesOnly fun _ => push_writesOnly rfl _ _
  case pla => exact impliedInstr_writesOnly fun _ => (pull_writesOnly rfl _).trans ⟨rfl, id⟩
  case plp => exact impliedInstr_writesOnly (opPlp_writesOnly rfl fun _ _ => rfl)
  case rts =>
    exact impliedInstr_writesOnly fun _ =>
      ((pull_writesOnly rfl _).trans (pull_writesOnly rfl _)).trans (setPc_writesOnly _ _)
  case rti => exact impliedInstr_writesOnly (returnFromTrap_writesOnly rfl fun _ _ => rfl)
  case brk => exact impliedInstr_writesOnly (takeTrap_writesOnly rfl rfl)

/-- An instruction writes only the parts its mnemonic may write, in its mode. -/
theorem exec_writesOnly {i : Instr} {s t : State} (h : exec i s = .next t) :
    WritesOnly (writes i) s t :=
  run_writesOnly _ _ _ (exec_eq_run i s ▸ h)

/-- A tick writes only what the instruction it fetches may write (R134). -/
theorem step_writesOnly {s t : State} (h : step s = .next t) :
    WritesOnly (writes (fetched s)) s t := by
  rw [step_of_not_jammed (jammed_of_step h)] at h
  have hbegin : WritesOnly (writes (fetched s)) s (beginTick s) := ⟨rfl, id⟩
  exact (hbegin.trans (fetchInstr_writesOnly _)).trans (exec_writesOnly h)

/-! ### The statements. -/

/-- Only the shifts and rotates have Accumulator mode (R190). -/
theorem mnemonic_mem_accumulatorShifts {i : Instr} :
    i.operand.mode = .acc → i.mnemonic ∈ accumulatorShifts := by
  cases i
  case aslAcc | lsrAcc | rolAcc | rorAcc => decide
  all_goals exact nofun

/-- A part is written by the mnemonics its rule lists only. -/
theorem writes_eq_false {i : Instr} {p : Part} (h : i.mnemonic ∉ p.writers) :
    writes i p = false := by
  cases p
  case a =>
    have hmode : i.operand.mode ≠ .acc := fun ho =>
      h (accumulatorShifts_subset_writers (mnemonic_mem_accumulatorShifts ho))
    simp [writes, mayWrite, h, hmode]
  all_goals simp [writes, mayWrite, h]

/-- A shift or rotate of memory does not write A (R30). -/
theorem writes_a_of_memory_shift {i : Instr} (hm : i.mnemonic ∈ accumulatorShifts)
    (ho : i.operand.mode ≠ .acc) : writes i .a = false := by
  simp [writes, mayWrite, hm, ho]

/-- Settles O46: A, X, Y and SP are written by the instructions of R30 to R33 only. -/
theorem registerWriters : Obligations.RegisterWriters := by
  intro i s t h
  have hw := exec_writesOnly h
  exact ⟨fun hm => hw.read (p := .a) (writes_eq_false hm),
    fun hm ho => hw.read (p := .a) (writes_a_of_memory_shift hm ho),
    fun hm => hw.read (p := .x) (writes_eq_false hm),
    fun hm => hw.read (p := .y) (writes_eq_false hm),
    fun hm => hw.read (p := .sp) (writes_eq_false hm)⟩

/-- Settles O47: each flag is written by the instructions of R36 to R43 only, and U never falls. -/
theorem flagWriters : Obligations.FlagWriters := by
  intro i s t h
  have hw := exec_writesOnly h
  refine ⟨fun hm => hw.read (p := .c) (writes_eq_false hm),
    fun hm => hw.read (p := .i) (writes_eq_false hm),
    fun hm => hw.read (p := .d) (writes_eq_false hm),
    fun hm => hw.read (p := .b) (writes_eq_false hm),
    hw.u_stays,
    fun hm => hw.read (p := .u) (writes_eq_false hm),
    fun hm => hw.read (p := .v) (writes_eq_false hm), fun hm => ?_⟩
  have hnz : i.mnemonic ∉ nzWriters := keepsNZ_notMem_nzWriters _ hm
  exact ⟨hw.read (p := .z) (writes_eq_false hnz), hw.read (p := .n) (writes_eq_false hnz)⟩

/-- Settles O51: a step keeps the cartridge and the parameters, jams at a JAM only, and only adds to the history. -/
theorem constantsOfTheMachine : Obligations.ConstantsOfTheMachine := by
  intro s t h
  have hw := step_writesOnly h
  obtain ⟨u, hfetch, hexec⟩ := step_busSteps h
  have hjam : t.jammed = true → (fetched s).mnemonic = .jam := by
    intro ht
    by_contra hne
    have hkept : t.jammed = s.jammed :=
      hw.read (p := .jammed) (writes_eq_false (by simpa [Part.writers] using hne))
    simp [hkept, jammed_of_step h] at ht
  obtain ⟨hgrow, hreads⟩ := hfetch.grows
  exact ⟨hw.cart, hw.params, hjam, hgrow.trans hexec.grows.1, hreads.trans hexec.grows.2⟩

/-- Settles O52: the invariant holds after a step, RAM by the bus accesses, the rest by the frame. -/
theorem stepKeepsInvariant : Obligations.StepKeepsInvariant := by
  rintro s t ⟨⟨hwf, hbelow, hcart⟩, hu⟩ h
  have hw := step_writesOnly h
  obtain ⟨u, hfetch, hexec⟩ := step_busSteps h
  obtain ⟨hwf', hbelow'⟩ := hfetch.ram hwf hbelow
  obtain ⟨hwf'', hbelow''⟩ := hexec.ram hwf' hbelow'
  exact ⟨⟨hwf'', hbelow'', hw.cart ▸ hcart⟩, hw.u_stays hu⟩

end Sys2Proof.Writers
end

section
/-! PROOF. The status byte (10_state R35, 46_stack_control R240): its bits are read off once, and packing and unpacking are
inverse because bytes with the same bits are equal. -/

open Sys2Proof Sys2Proof.Machine

namespace Sys2Proof.StatusByte

/-- The packed byte as binary digits, bit 0 outermost (R35). -/
theorem pack_eq_digits (p : Status) :
    p.pack = BitVec.ofNat 8 (Nat.bit p.c (Nat.bit p.z (Nat.bit p.i (Nat.bit p.d
      (Nat.bit p.b (Nat.bit p.u (Nat.bit p.v (Nat.bit p.n 0)))))))) := by
  simp only [Status.pack, Nat.bit_val]
  congr 1
  omega

/-- Bit `k` of the packed byte is the flag R35 puts there. -/
theorem bit_pack (p : Status) :
    bit p.pack 0 = p.c ∧ bit p.pack 1 = p.z ∧ bit p.pack 2 = p.i ∧ bit p.pack 3 = p.d ∧
      bit p.pack 4 = p.b ∧ bit p.pack 5 = p.u ∧ bit p.pack 6 = p.v ∧ bit p.pack 7 = p.n := by
  simp only [bit, pack_eq_digits, BitVec.getLsbD_ofNat, Nat.testBit_bit_zero, Nat.testBit_bit_succ]
  simp

theorem unpack_pack (p : Status) : Status.unpack p.pack = p := by
  simp [Status.unpack, bit_pack]

theorem pack_unpack (v : Byte) : (Status.unpack v).pack = v := by
  obtain ⟨h0, h1, h2, h3, h4, h5, h6, h7⟩ := bit_pack (Status.unpack v)
  apply BitVec.eq_of_getLsbD_eq
  intro k hk
  interval_cases k <;> assumption

/-- The push image differs from P in bits 4 and 5 only (R240). -/
theorem unpack_pushImage (p : Status) :
    Status.unpack (pushImage p) = { p with b := true, u := true } := by
  have hbit : ∀ k, bit (pushImage p) k = (bit p.pack k || bit 0x30 k) := fun k =>
    BitVec.getLsbD_or
  have hmask : bit 0x30 4 = true ∧ bit 0x30 5 = true ∧
      ∀ k ∈ [0, 1, 2, 3, 6, 7], bit 0x30 k = false := by decide
  simp_all [Status.unpack, bit_pack]

/-- Settles O31: the bits of the status byte, and that packing and unpacking are inverse. -/
theorem statusPacking : Obligations.StatusPacking := by
  refine ⟨fun p => ?_, pack_unpack, by decide⟩
  obtain ⟨hc, hz, hi, hd, hb, hu, hv, hn⟩ := bit_pack p
  exact ⟨hc, hz, hi, hd, hb, hu, hv, hn, unpack_pack p, unpack_pushImage p⟩

end Sys2Proof.StatusByte
end

section
/-! PROOF. The cartridge load (70_reset_and_hazards R371 to R374): when no check of `loadFailure` fails, and that a slice of
the file, stored as an image, reads back as the file's bytes. -/

open Sys2Proof Sys2Proof.Machine

namespace Sys2Proof.CartridgeLoad

/-- A machine comes of exactly the files with no load failure. -/
theorem init_eq_ok_iff {params : Params} {po : PowerOn} {file : List Byte} {s : State} :
    init params po file = .ok s ↔
      loadFailure file = none ∧ powerOnState params po (cartridgeOf file) = s := by
  unfold init
  cases loadFailure file <;> simp

theorem highNibble_toNat (v : Byte) : (v &&& 0xF0#8).toNat = v.toNat / 16 * 16 := by
  have hshift : v &&& 0xF0#8 = (v >>> 4) <<< 4 := by
    apply BitVec.eq_of_getLsbD_eq
    intro k hk
    interval_cases k <;> simp
  have hlt := v.isLt
  rw [hshift, BitVec.toNat_shiftLeft, BitVec.toNat_ushiftRight, Nat.shiftLeft_eq,
    Nat.shiftRight_eq_div_pow]
  omega

/-- The mapper id puts the high nibble of ctrl2 over that of ctrl1 (R372). -/
theorem mapperId_toNat (h : Header) :
    h.mapperId.toNat = h.ctrl2.toNat / 16 * 16 + h.ctrl1.toNat / 16 := by
  have hlow : h.ctrl1.toNat / 16 < 2 ^ 4 := by
    have := h.ctrl1.isLt
    omega
  have hid : h.mapperId = (h.ctrl2 &&& 0xF0#8) ||| (h.ctrl1 >>> 4) := rfl
  rw [hid, BitVec.toNat_or, highNibble_toNat, BitVec.toNat_ushiftRight,
    Nat.shiftRight_eq_div_pow, Nat.mul_comm, ← Nat.two_pow_add_eq_or_of_lt hlow]

theorem mapperId_eq_zero_iff (h : Header) :
    h.mapperId = 0 ↔ h.ctrl2.toNat / 16 * 16 + h.ctrl1.toNat / 16 = 0 := by
  rw [← mapperId_toNat, ← BitVec.toNat_inj]
  rfl

/-- A load succeeds if all five checks of R374 pass. -/
theorem loadFailure_eq_none_iff (file : List Byte) :
    loadFailure file = none ↔
      16 ≤ file.length ∧ file.take 4 = magic ∧ (headerOf file).prgUnits ≠ 0 ∧
        (headerOf file).mapperId = 0 ∧ (headerOf file).requiredLength ≤ file.length := by
  simp only [loadFailure]
  split_ifs <;> simp_all [mapperTable]

/-- Byte `k` of an image cut from a file is the file's byte at the image's offset (R373). -/
theorem read_image (file : List Byte) {start n k : Nat} (hk : k < n) :
    Memory.read (Memory.ofBytesFrom 0 (slice file start n)) k = fileByte file (start + k) := by
  rw [Memory.read_ofBytesFrom _ _ _ k.zero_le, slice, Nat.sub_zero, List.getElem?_take_of_lt hk,
    List.getElem?_drop]
  rfl

theorem mirroring_cartridgeOf (file : List Byte) :
    (cartridgeOf file).mirroring = .vertical ↔ bit (headerOf file).ctrl1 0 = true := by
  simp [cartridgeOf]

/-- Settles O56: `init` succeeds when R374 reports no failure, and the images are the file's bytes. -/
theorem loadSucceedsOrFails : Obligations.LoadSucceedsOrFails := by
  intro params po file h t L
  constructor
  · simp only [init_eq_ok_iff, exists_and_left, exists_eq', and_true]
    rw [loadFailure_eq_none_iff, mapperId_eq_zero_iff]
    rfl
  · intro s hs
    obtain ⟨hnone, rfl⟩ := init_eq_ok_iff.mp hs
    obtain ⟨-, -, -, hzero, -⟩ := (loadFailure_eq_none_iff file).mp hnone
    exact ⟨rfl, rfl, fun k => read_image file, fun k => read_image file,
      mirroring_cartridgeOf file, rfl, hzero⟩

end Sys2Proof.CartridgeLoad
end

section
/-! PROOF. The Bus Router window by window (20_memory R64 to R77, R88): `memRead` and `memWrite` in the numbers of the rules, one
lemma per window, from which the statements about the windows are put together. -/

open Sys2Proof Sys2Proof.Machine Sys2Proof.Claims

namespace Sys2Proof.BusWindows

section
variable {a b : Addr} (v : Byte) (s : State)

/-! ### Working RAM (R65). -/

theorem memRead_ram_window (ha : a.toNat < 0x2000) :
    memRead a s = (s.ram.read (a.toNat % 2048), s) := by
  simp [memRead, region_ram ha]

theorem memWrite_ram_window (ha : a.toNat < 0x2000) :
    memWrite a v s = { s with ram := s.ram.write (a.toNat % 2048) v } := by
  simp [memWrite, region_ram ha, State.setRam]

/-- Every mirror reads a stored byte back (R65). -/
theorem memRead_memWrite_mirror (ha : a.toNat < 0x2000) (hb : b.toNat < 0x2000)
    (hab : b.toNat % 2048 = a.toNat % 2048) (hw : s.ram.wf = true) :
    memRead b (memWrite a v s) = (v, memWrite a v s) := by
  rw [memRead_ram_window _ hb, memWrite_ram_window _ _ ha, hab, Memory.read_write_same _ _ _ hw]

/-! ### Device registers (R66 to R73). -/

/-- The model's external read is the one the statements write out (R91, R92). -/
theorem extRead_eq_answered (port : ExtPort) : extRead port s = answered port s := by
  cases port <;> rfl

/-- The three low address bits pick the PPU register (R66). -/
theorem region_ppu_mod (h1 : 0x2000 ≤ a.toNat) (h2 : a.toNat ≤ 0x3FFF) :
    region a = .ppu (BitVec.ofNat 3 (a.toNat % 8)) := by
  rw [region_ppu h1 (by omega)]
  exact congrArg Region.ppu (BitVec.eq_of_toNat_eq (by simp))

/-- The APU window has a hole at 4014, where OAM DMA is (R64, R68). -/
theorem region_apu_window (ha : (0x4000 ≤ a.toNat ∧ a.toNat ≤ 0x4013) ∨ a.toNat = 0x4015) :
    region a = .apu a := by
  obtain ⟨h1, h2⟩ | h := ha
  · exact region_apu h1 (by omega)
  · simp [region_above_ppu, h]

theorem region_oamDma (ha : a.toNat = 0x4014) : region a = .oamDma := by
  simp [region_above_ppu, ha]

theorem region_ctrl0 (ha : a.toNat = 0x4016) : region a = .ctrl0 := by
  simp [region_above_ppu, ha]

theorem region_ctrl1 (ha : a.toNat = 0x4017) : region a = .ctrl1 := by
  simp [region_above_ppu, ha]

/-- A read of a PPU register is a recorded answer of that register (R66). -/
theorem memRead_ppu_window (h1 : 0x2000 ≤ a.toNat) (h2 : a.toNat ≤ 0x3FFF) :
    memRead a s = answered (.ppu (BitVec.ofNat 3 (a.toNat % 8))) s := by
  simp only [memRead, region_ppu_mod h1 h2, extRead_eq_answered]

/-- A read of 4017 is a recorded answer of controller port 1 (R73). -/
theorem memRead_ctrl1 (ha : a.toNat = 0x4017) : memRead a s = answered (.ctrl 1) s := by
  simp only [memRead, region_ctrl1 ha, extRead_eq_answered]

/-! ### The cartridge (R76, R77). -/

theorem memRead_cartridge_window (ha : 0x4020 ≤ a.toNat) :
    memRead a s = (s.cart.prgRom.read (a.toNat % (16384 * s.cart.prgUnits)), s) := by
  simp only [memRead, region_cartridge ha]
  rfl

theorem memWrite_cartridge_window (ha : 0x4020 ≤ a.toNat) : memWrite a v s = s := by
  simp only [memWrite, region_cartridge ha]

end

/-! ### The statements. -/

/-- Settles O13: the RAM window and its four mirrors. -/
theorem ramWindow : Obligations.RamWindow := by
  intro a b v s hw ha hb
  refine ⟨memRead_ram_window s ha, memWrite_ram_window v s ha,
    fun hab => memRead_memWrite_mirror v s ha hb hab hw, fun hab => ?_⟩
  rw [memRead_ram_window _ hb, memRead_ram_window _ hb, memWrite_ram_window _ _ ha]
  exact Memory.read_write_other _ _ _ _ hab

/-- Settles O14: 4014 reads the open-bus value, and the gap 4018 to 401F neither keeps nor records anything. -/
theorem openBusAndTriggerReads : Obligations.OpenBusAndTriggerReads := by
  refine ⟨fun s => ?_, fun a s h1 h2 => ?_, fun a v s h1 h2 => ?_⟩
  · simp only [memRead, region_oamDma (a := 0x4014) rfl, openBusValue]
  · simp only [memRead, region_openBus h1 (by omega : a.toNat < 0x4020), openBusValue]
  · simp only [memWrite, region_openBus h1 (by omega : a.toNat < 0x4020)]

/-- Settles O15: a read of a device register is one recorded answer of its port. -/
theorem deviceReadsAreRecordedAnswers : Obligations.DeviceReadsAreRecordedAnswers := by
  intro a s
  refine ⟨memRead_ppu_window s, fun ha => ?_, fun ha => ?_, memRead_ctrl1 s⟩
  · simp only [memRead, region_apu_window ha, extRead_eq_answered]
  · simp only [memRead, region_ctrl0 ha, extRead_eq_answered]

/-- Settles O16: a write to a device register is one event, and at 4016 only under the parameter. -/
theorem deviceWritesAreRecorded : Obligations.DeviceWritesAreRecorded := by
  intro a v s
  refine ⟨fun h1 h2 => ⟨memRead_ppu_window s h1 h2, ?_⟩, fun ha => ?_, fun ha => ?_,
    fun ha hp => ?_, fun ha hp => ?_, fun ha => ⟨memRead_ctrl1 s ha, ?_⟩⟩
  · simp only [memWrite, region_ppu_mod h1 h2]; rfl
  · simp only [memWrite, region_apu_window ha]; rfl
  · simp only [memWrite, region_oamDma ha]; rfl
  · simp only [memWrite, region_ctrl0 ha, hp, if_true]; rfl
  · simp only [memWrite, region_ctrl0 ha, hp, Bool.false_eq_true, if_false]
  · simp only [memWrite, region_ctrl1 ha]; rfl

/-- Settles O17: the cartridge window; 8000 is a multiple of the ROM size of one unit and of two. -/
theorem cartridgeWindow : Obligations.CartridgeWindow := by
  intro a v s ha
  refine ⟨memRead_cartridge_window s ha, memWrite_cartridge_window v s ha, fun h8 hn => ?_⟩
  have hoffset : a.toNat % (16384 * s.cart.prgUnits) =
      (a.toNat - 0x8000) % (16384 * s.cart.prgUnits) := by
    obtain hn | hn := hn <;> rw [hn] <;> omega
  rw [memRead_cartridge_window s ha, hoffset]

/-- Settles O19: a fetch reads through the same windows as the store wrote. -/
theorem storeSeenByNextFetch : Obligations.StoreSeenByNextFetch := by
  intro a b v s hw
  constructor
  · intro ha hb hab
    have hram : (memWrite a v s).ram = s.ram.write (a.toNat % 2048) v := by
      rw [memWrite_ram_window v s ha]
    simp only [fetchByte, memRead_ram_window _ hb, hram, ← hab]
    exact Memory.read_write_same _ _ _ hw
  · intro ha
    rw [memWrite_cartridge_window v s ha]

end Sys2Proof.BusWindows
end

section
/-! PROOF. The stack (20_memory R81, R82): the stack page is RAM below the first mirror, so push and pull are one access of the
byte SP names. -/

open Sys2Proof Sys2Proof.Machine Sys2Proof.Claims

namespace Sys2Proof.StackAccess

section
variable (v : Byte) (s : State)

/-- The stack page lies in the RAM window, below its first mirror (R33, R65). -/
theorem stackAddr_in_ram (sp : Byte) :
    (stackAddr sp).toNat < 0x2000 ∧ (stackAddr sp).toNat % 2048 = 0x100 + sp.toNat := by
  have hsp := sp.isLt
  rw [toNat_stackAddr]
  omega

theorem memWrite_stackAddr (sp : Byte) :
    memWrite (stackAddr sp) v s = { s with ram := s.ram.write (0x100 + sp.toNat) v } := by
  obtain ⟨hwindow, hkey⟩ := stackAddr_in_ram sp
  rw [BusWindows.memWrite_ram_window v s hwindow, hkey]

theorem memRead_stackAddr (sp : Byte) :
    memRead (stackAddr sp) s = (s.ram.read (0x100 + sp.toNat), s) := by
  obtain ⟨hwindow, hkey⟩ := stackAddr_in_ram sp
  rw [BusWindows.memRead_ram_window s hwindow, hkey]

theorem push_eq : push v s =
    { s with ram := s.ram.write (0x100 + s.sp.toNat) v, sp := s.sp - 1 } := by
  rw [push, memWrite_stackAddr]
  rfl

theorem pull_eq : pull s =
    (s.ram.read (0x100 + (s.sp + 1).toNat), { s with sp := s.sp + 1 }) := by
  rw [pull, memRead_stackAddr]
  rfl

/-- Pull undoes push (R82). -/
theorem pull_push (hw : s.ram.wf = true) :
    (pull (push v s)).1 = v ∧ (pull (push v s)).2.sp = s.sp := by
  have hsp : s.sp - 1 + 1 = s.sp := BitVec.sub_add_cancel _ _
  rw [pull_eq, push_eq]
  exact ⟨by simp only [hsp, Memory.read_write_same _ _ _ hw], hsp⟩

end

/-- Settles O18: push and pull as R81 and R82 write them, and that pull undoes push. -/
theorem pushThenPull : Obligations.PushThenPull := by
  intro v s hw
  have hminus : s.sp - 1 = minus256 s.sp 1 := by
    unfold minus256 mod256
    bv_omega
  have hplus : (s.sp + 1).toNat = (s.sp.toNat + 1) % 256 := BitVec.toNat_add s.sp 1
  have hbyte : mod256 (s.sp + 1).toNat = s.sp + 1 := by
    rw [mod256, BitVec.ofNat_toNat, BitVec.setWidth_eq]
  refine ⟨hminus ▸ push_eq v s, ?_, pull_push v s hw⟩
  rw [← hplus, hbyte, pull_eq]

end Sys2Proof.StackAccess
end

section
/-! PROOF. Which bytes of memory an instruction can change (20_memory R81, 40_dispatch R130, R131): RAM is changed by bus writes
only, so a form without one keeps every byte, and a form that pushes keeps all but its stack bytes. -/

open Sys2Proof Sys2Proof.Machine Sys2Proof.Claims

namespace Sys2Proof.MemoryFrame

/-! ### The forms that store nothing. -/

/-- A run that leaves RAM alone when it answers a next state. -/
def KeepsRam (run : State → Result) : Prop :=
  ∀ ⦃s t : State⦄, run s = .next t → t.ram = s.ram

section
variable {opc : Byte} {o : Operand}

theorem endTick_ram {crossed : Bool} {u t : State} (h : endTick opc crossed u = .next t) :
    t.ram = u.ram := by
  cases h
  rfl

theorem impliedInstr_keepsRam {f : State → State} (hf : ∀ u, (f u).ram = u.ram) :
    KeepsRam (impliedInstr opc f) :=
  fun s _ h => (endTick_ram h).trans (hf s)

theorem readInstr_keepsRam {f : Byte → State → State} (hf : ∀ m u, (f m u).ram = u.ram) :
    KeepsRam (readInstr opc f o) :=
  fun _ _ h => (endTick_ram h).trans (by simp [hf])

/-- Under Accumulator mode a read-modify-write works on A (R190). -/
theorem rmwInstr_acc_keepsRam {f : Byte → State → Byte × State} {after : Byte → State → State}
    (hf : ∀ v u, (f v u).2.ram = u.ram) (ha : ∀ v u, (after v u).ram = u.ram) :
    KeepsRam (rmwInstr opc f after .acc) :=
  fun _ _ h => (endTick_ram h).trans (by simp [hf, ha])

theorem nopInstr_keepsRam : KeepsRam (nopInstr opc o) := by
  intro s t h
  rw [endTick_ram h]
  split <;> simp

theorem branchTo_ram (cond : Bool) (ea : Addr) (s : State) : (branchTo cond ea s).ram = s.ram := by
  cases cond <;> rfl

theorem branchInstr_keepsRam {cond : Bool} : KeepsRam (branchInstr opc cond o) :=
  fun _ _ h => (endTick_ram h).trans (by simp [branchTo_ram])

theorem jmpInstr_keepsRam : KeepsRam (jmpInstr opc o) :=
  fun _ _ h => (endTick_ram h).trans (by simp)

end

theorem operand_eq_acc {o : Operand} (h : o.mode = .acc) : o = .acc := by
  cases o
  case acc => rfl
  all_goals cases h

/-- An instruction that neither stores nor pushes leaves RAM alone, by its access pattern. -/
theorem exec_keepsRam {i : Instr} (hstore : ¬ storesAtTarget i) (hpush : ¬ pushes i) :
    KeepsRam (exec i) := by
  intro s t h
  rw [exec_eq_run] at h
  revert s t
  cases hm : i.mnemonic
  case adc | sbc | usbc | and | ora | eor | bit | cmp | cpx | cpy | lda | ldx | ldy | alr | anc | arr | las
  | lax | lxa | sbx | ane =>
    exact readInstr_keepsRam fun _ _ => rfl
  case asl | lsr | rol | ror =>
    have hacc : i.operand = .acc := operand_eq_acc <| by
      by_contra hmode
      exact hstore (.inr ⟨by simp [hm], hmode⟩)
    rw [hacc]
    exact rmwInstr_acc_keepsRam (fun _ _ => rfl) fun _ _ => rfl
  case nop => exact nopInstr_keepsRam
  case bcc | bcs | beq | bne | bmi | bpl | bvc | bvs => exact fun _ _ h => branchInstr_keepsRam h
  case jmp => exact jmpInstr_keepsRam
  case inx | iny | dex | dey | tax | tay | txa | tya | tsx | txs | clc | sec | cli | sei | cld | sed | clv
  | jam =>
    exact impliedInstr_keepsRam fun _ => rfl
  case pla => exact impliedInstr_keepsRam fun _ => by simp [opPla]
  case plp => exact impliedInstr_keepsRam fun _ => by simp [opPlp]
  case rts => exact impliedInstr_keepsRam fun _ => by simp [opRts]
  case rti => exact impliedInstr_keepsRam fun _ => by simp [returnFromTrap]
  case sta | stx | sty | sax | sha | shx | shy | tas | inc | dec | dcp | isc | rla | rra | slo | sre =>
    exact (hstore (.inl (by simp [hm]))).elim
  case pha | php | jsr | brk => exact (hpush (by simp [pushes, hm])).elim

/-- Settles O48: RAM and the cartridge are as they were, so every byte is, and the history only grows. -/
theorem nonStoringFormsKeepMemory : Obligations.NonStoringFormsKeepMemory := by
  intro i s t hstore hpush h
  have hram := exec_keepsRam hstore hpush h
  exact ⟨byteAt_congr hram (Writers.exec_writesOnly h).cart, hram, (exec_busSteps i h).grows.1⟩

/-! ### The forms that push. -/

section
variable {a : Addr} (v : Byte) (s : State)

theorem byteAt_push_other (h : region a ≠ region (stackAddr s.sp)) :
    byteAt (push v s) a = byteAt s a :=
  byteAt_memWrite_other h v s

/-- Two pushes change two bytes, the second one down from SP. -/
theorem byteAt_push_push_other (w : Byte) (h : region a ≠ region (stackAddr s.sp))
    (h1 : region a ≠ region (stackAddr (s.sp - 1))) :
    byteAt (push w (push v s)) a = byteAt s a :=
  (byteAt_push_other w (push v s) h1).trans (byteAt_push_other v s h)

/-- BRK changes only the three bytes it pushes (R249). -/
theorem byteAt_takeTrap_other (h : region a ≠ region (stackAddr s.sp))
    (h1 : region a ≠ region (stackAddr (s.sp - 1)))
    (h2 : region a ≠ region (stackAddr (s.sp - 2))) :
    byteAt (takeTrap s) a = byteAt s a := by
  have hsp : s.sp - 1 - 1 = s.sp - 2 := by rw [BitVec.sub_sub]; rfl
  have hread : byteAt (takeTrap s) a =
      byteAt (push (pushImage s.p) (push (lo8 (s.pc + 1)) (push (hi8 (s.pc + 1)) s))) a :=
    byteAt_congr (by simp [takeTrap]) (by simp [takeTrap]) a
  have hthird : region a ≠ region (stackAddr (push (lo8 (s.pc + 1)) (push (hi8 (s.pc + 1)) s)).sp) := by
    rw [push_sp, push_sp, hsp]
    exact h2
  rw [hread, byteAt_push_other _ _ hthird, byteAt_push_push_other _ _ _ h h1]

theorem byteAt_endTick {opc : Byte} {crossed : Bool} {u t : State}
    (h : endTick opc crossed u = .next t) : byteAt t a = byteAt u a := by
  cases h
  rfl

end

/-- Settles O50: each of the four forms changes the stack bytes its pushes write, and no other byte. -/
theorem pushesWriteOnlyTheStack : Obligations.PushesWriteOnlyTheStack := by
  intro i s t hpush h a h0 h1 h2
  rw [exec_eq_run] at h
  have hm : i.mnemonic = .pha ∨ i.mnemonic = .php ∨ i.mnemonic = .jsr ∨ i.mnemonic = .brk := by
    simpa using hpush
  obtain hm | hm | hm | hm := hm <;> rw [hm] at h
  · exact (byteAt_endTick h).trans (byteAt_push_other _ s h0)
  · exact (byteAt_endTick h).trans (byteAt_push_other _ s h0)
  · have hresolved : byteAt (resolve i.operand s).2 a = byteAt s a :=
      byteAt_congr (resolve_ram s _) (resolve_cart s _) a
    refine (byteAt_endTick h).trans (Eq.trans ?_ hresolved)
    exact byteAt_push_push_other _ _ _ (by simpa using h0) (by simpa using h1 (.inl hm))
  · exact (byteAt_endTick h).trans (byteAt_takeTrap_other s h0 (h1 (.inr hm)) (h2 hm))

end Sys2Proof.MemoryFrame
end

section
/-! PROOF. Encoding and decoding (30_encoding R100 to R106).  The decoder's form of an opcode byte says which operand bytes follow
it; both round trips, the layout and the totality are read off from the bytes a form takes. -/

open Sys2Proof

namespace Sys2Proof.EncodingForms

/-- The operand bytes that follow the opcode byte of a form, for an operand held in 16 bits (R102, R104). -/
def operandBytes : Form → Addr → List Byte
  | .imp _, _ => []
  | .byte _, w => [lo8 w]
  | .word _, w => [lo8 w, hi8 w]

/-- The encoder puts after an opcode byte what the decoder's form of that byte takes. -/
theorem operand_bytes_build (opc : Byte) (w : Addr) :
    ((form opc).build w).operand.bytes = operandBytes (form opc) w := by
  obtain ⟨n, hn, rfl⟩ : ∃ n, n < 256 ∧ opc = BitVec.ofNat 8 n := ⟨opc.toNat, opc.isLt, by simp⟩
  interval_cases n <;> rfl

theorem encode_build (opc : Byte) (w : Addr) :
    encode ((form opc).build w) = opc :: operandBytes (form opc) w := by
  rw [encode, opcode_build, operand_bytes_build]

/-- The decoder takes exactly the operand bytes of the form, whatever follows them. -/
theorem decode_operandBytes (opc : Byte) (w : Addr) (rest : List Byte) :
    decode (opc :: (operandBytes (form opc) w ++ rest)) = .ok ((form opc).build w, rest) := by
  cases h : form opc with
  | imp i => exact decode_imp rest h
  | byte f => exact decode_byte rest h (lo8 w)
  | word f => exact decode_word rest h w

/-- What decodes is an opcode byte, the operand bytes of its form, and the rest. -/
theorem bytes_of_decode {bs : List Byte} {i : Instr} {rest : List Byte}
    (h : decode bs = .ok (i, rest)) :
    ∃ opc w, i = (form opc).build w ∧ bs = opc :: (operandBytes (form opc) w ++ rest) := by
  match bs with
  | [] => cases h
  | opc :: tail =>
    refine ⟨opc, ?_⟩
    simp only [decode] at h
    cases hf : form opc with
    | imp j =>
      rw [hf] at h
      cases h
      exact ⟨0, rfl, rfl⟩
    | byte f =>
      rw [hf] at h
      match tail with
      | [] => cases h
      | b :: _ =>
        cases h
        exact ⟨w16 0 b, by simp [Form.build, operandBytes]⟩
    | word f =>
      rw [hf] at h
      match tail with
      | [] | [_] => cases h
      | lo :: hi :: _ =>
        cases h
        exact ⟨w16 hi lo, by simp [Form.build, operandBytes]⟩

/-- Two bytes are enough for the operand of every form (R101). -/
theorem exists_rest_of_two_bytes (fm : Form) (lo hi : Byte) (rest : List Byte) :
    ∃ rest', lo :: hi :: rest = operandBytes fm (w16 hi lo) ++ rest' := by
  cases fm with
  | imp => exact ⟨lo :: hi :: rest, rfl⟩
  | byte => exact ⟨hi :: rest, by simp [operandBytes]⟩
  | word => exact ⟨rest, by simp [operandBytes]⟩

/-! ### Lengths (R101). -/

theorem length_bytes (o : Operand) : 1 + o.bytes.length = o.mode.length := by
  cases o <;> rfl

theorem length_encode (i : Instr) : (encode i).length = i.operand.mode.length := by
  rw [← length_bytes, Nat.add_comm]
  rfl

theorem mode_length (m : Mode) :
    m.length = if m = .imp ∨ m = .acc then 1
      else if m = .abs ∨ m = .absx ∨ m = .absy ∨ m = .ind then 3 else 2 := by
  cases m <;> rfl

/-! ### The rows of the Instruction Table (R109, R110). -/

/-- What every row of the Instruction Table satisfies: its mnemonic has its mode, its base cycles are `jamCycles` in a JAM row
and 2 to 8 in every other (R129), and a branch has no page penalty (R111). -/
abbrev RowIsSound (d : Descriptor) : Prop :=
  d.mnemonic.modes.contains d.mode = true ∧
    (d.mnemonic = .jam → d.baseCycles = .jam) ∧
    (d.mnemonic ≠ .jam → ∃ n ≤ 8, d.baseCycles = .fixed n ∧ 2 ≤ n) ∧
    (d.mode = .rel → d.pagePenalty = false)

theorem tableRow_sound (hi : Nat) : ∀ d ∈ tableRow hi, RowIsSound d := by
  unfold tableRow
  split <;> decide

theorem descriptorOf_mem_tableRow (opc : Byte) : descriptorOf opc ∈ tableRow (opc.toNat / 16) := by
  have hlo : opc.toNat % 16 < (tableRow (opc.toNat / 16)).length := by
    rw [tableRow_length]
    omega
  rw [descriptorOf, List.getElem?_eq_getElem hlo]
  exact List.getElem_mem hlo

theorem descriptorOf_sound (opc : Byte) : RowIsSound (descriptorOf opc) :=
  tableRow_sound _ _ (descriptorOf_mem_tableRow opc)

/-- Every instruction is well-formed, because its row of the table is (R110). -/
theorem instr_wellFormed (i : Instr) : i.WellFormed = true := by
  obtain ⟨hmodes, -⟩ := descriptorOf_sound i.opcode
  rwa [i.descriptor_mnemonic, i.descriptor_mode] at hmodes

/-! ### The statements. -/

/-- Settles O1: an instruction is what its opcode byte's form builds, and decoding takes the form's bytes. -/
theorem decodeEncodeRoundTrip : Obligations.DecodeEncodeRoundTrip := by
  intro i rest
  obtain ⟨w, hi⟩ := Instr.exists_build (i := i) rfl
  rw [hi, encode_build, List.cons_append, decode_operandBytes]

/-- Settles O2: bytes that decode are the encoding of what their form builds, then the rest. -/
theorem encodeDecodeRoundTrip : Obligations.EncodeDecodeRoundTrip := by
  intro bs i rest h
  obtain ⟨opc, w, rfl, rfl⟩ := bytes_of_decode h
  rw [encode_build, List.cons_append]

/-- Settles O3: the length is the mode's, and the operand gives the bytes. -/
theorem encodingLayout : Obligations.EncodingLayout := by
  intro i
  refine ⟨instr_wellFormed i, by rw [length_encode, mode_length], ?_, fun b hb => ?_, fun w hw => ?_⟩
  · rintro ⟨m, n, h | h⟩ <;> rw [encode, Instr.operand, h] <;> rfl
  · have hbytes : i.operand.bytes = [b] := by
      generalize i.operand = o at hb
      fin_cases hb <;> rfl
    rw [encode, hbytes]
  · have hbytes : i.operand.bytes = [lo8 w, hi8 w] := by
      generalize i.operand = o at hw
      fin_cases hw <;> rfl
    refine ⟨lo8 w, hi8 w, by rw [encode, hbytes], ?_⟩
    rw [toNat_hi8, toNat_lo8, Nat.div_add_mod]

/-- Settles O4: every opcode byte has a form, and two bytes are enough for its operand. -/
theorem decoderRefusesNoByte : Obligations.DecoderRefusesNoByte := by
  intro opc b1 b2 rest
  obtain ⟨rest', hbytes⟩ := exists_rest_of_two_bytes (form opc) b1 b2 rest
  rw [hbytes]
  exact ⟨_, rest', decode_operandBytes opc _ rest', opcode_build opc _⟩

/-- Settles O5: the row of an instruction's opcode byte is its own, and every row is sound. -/
theorem tableRowIsTheInstructions : Obligations.TableRowIsTheInstructions := by
  intro i
  obtain ⟨-, hjam, hfixed, hrel⟩ := descriptorOf_sound i.opcode
  rw [i.descriptor_mnemonic] at hjam hfixed
  rw [i.descriptor_mode] at hrel
  refine ⟨i.descriptor_mnemonic, i.descriptor_mode, hjam, fun hm => ?_, hrel⟩
  obtain ⟨n, hn, hbase, hn'⟩ := hfixed hm
  exact ⟨n, hbase, hn', hn⟩

/-- Settles O6: the 256 rows of the table against the list of R111. -/
theorem pagePenaltyOpcodes : Obligations.PagePenaltyOpcodes := by
  unfold Obligations.PagePenaltyOpcodes
  decide

/-- Settles O7: each of the words is the encoding of its instruction. -/
theorem specWordsDecode : Obligations.SpecWordsDecode :=
  ⟨decodeEncodeRoundTrip (.adcImm 0x5A) [], decodeEncodeRoundTrip (.lsrZpx 0x10) [],
    decodeEncodeRoundTrip (.cpyAbs 0x1234) [], decodeEncodeRoundTrip (.bne 0xFE) [],
    decodeEncodeRoundTrip (.jmpInd 0x02FF) [], decodeEncodeRoundTrip (.stxZpy 0xFF) [],
    decodeEncodeRoundTrip .sei [], decodeEncodeRoundTrip .nopImpEA [],
    decodeEncodeRoundTrip (.shaIzy 0x40) []⟩

end Sys2Proof.EncodingForms
end

section
/-! PROOF. PC after a tick (40_dispatch R122, R125): the fetch moves it past the instruction, and only the control transfers
write it after that (10_state R34). -/

open Sys2Proof Sys2Proof.Machine Sys2Proof.Claims

namespace Sys2Proof.ProgramCounter

/-! ### The fetch. -/

/-- The length of what a form builds is one opcode byte and the form's operand bytes. -/
theorem length_build (opc : Byte) (w : Addr) :
    ((form opc).build w).operand.mode.length =
      1 + (EncodingForms.operandBytes (form opc) w).length := by
  rw [← EncodingForms.length_bytes, EncodingForms.operand_bytes_build]

/-- The fetch leaves PC after the whole instruction (R125). -/
theorem fetchInstr_pc (s : State) :
    (fetchInstr s).2.pc = s.pc + BitVec.ofNat 16 (fetchInstr s).1.operand.mode.length := by
  have hlen := length_build (fetchByte s).1
  unfold fetchInstr
  cases hf : form (fetchByte s).1 with
  | imp i =>
    have hi : i.operand.mode.length = 1 := by
      simpa [hf, Form.build, EncodingForms.operandBytes] using hlen 0
    simp [hf, hi]
  | byte f =>
    have hb : ∀ b, (f b).operand.mode.length = 2 := fun b => by
      simpa [hf, Form.build, EncodingForms.operandBytes] using hlen (w16 0 b)
    simp [hf, hb, BitVec.add_assoc]
  | word f =>
    have hw : ∀ w, (f w).operand.mode.length = 3 := fun w => by
      simpa [hf, Form.build, EncodingForms.operandBytes] using hlen w
    simp [hf, hw, BitVec.add_assoc]

/-! ### The access patterns. -/

/-- A run that leaves PC alone when it answers a next state. -/
def KeepsPc (run : State → Result) : Prop :=
  ∀ ⦃s t : State⦄, run s = .next t → t.pc = s.pc

section
variable {opc : Byte} {o : Operand}

theorem endTick_pc {crossed : Bool} {u t : State} (h : endTick opc crossed u = .next t) :
    t.pc = u.pc := by
  cases h
  rfl

theorem impliedInstr_keepsPc {f : State → State} (hf : ∀ u, (f u).pc = u.pc) :
    KeepsPc (impliedInstr opc f) :=
  fun s _ h => (endTick_pc h).trans (hf s)

theorem readInstr_keepsPc {f : Byte → State → State} (hf : ∀ m u, (f m u).pc = u.pc) :
    KeepsPc (readInstr opc f o) :=
  fun _ _ h => (endTick_pc h).trans (by simp [hf])

theorem storeInstr_keepsPc {value : State → Byte} : KeepsPc (storeInstr opc value o) :=
  fun _ _ h => (endTick_pc h).trans (by simp)

theorem rmwInstr_keepsPc {f : Byte → State → Byte × State} {after : Byte → State → State}
    (hf : ∀ v u, (f v u).2.pc = u.pc) (ha : ∀ v u, (after v u).pc = u.pc) :
    KeepsPc (rmwInstr opc f after o) := by
  intro s t h
  cases o <;> exact (endTick_pc h).trans (by simp [hf, ha])

theorem shxInstr_keepsPc {first : State → State} {value : State → Byte}
    (hf : ∀ u, (first u).pc = u.pc) : KeepsPc (shxInstr opc first value o) :=
  fun _ _ h => (endTick_pc h).trans (by simp [shxStore, hf])

theorem nopInstr_keepsPc : KeepsPc (nopInstr opc o) := by
  intro s t h
  rw [endTick_pc h]
  split <;> simp

end

/-! ### Every instruction. -/

/-- The mnemonics that can transfer control, and JAM, after which no instruction follows. -/
def controlTransfers : List Mnemonic :=
  [.bcc, .bcs, .beq, .bne, .bmi, .bpl, .bvc, .bvs, .jmp, .jsr, .rts, .rti, .brk, .jam]

/-- An instruction that transfers no control leaves PC where the fetch left it, by its access pattern. -/
theorem run_keepsPc {m : Mnemonic} (hm : m ∉ controlTransfers) (opc : Byte) (o : Operand) :
    KeepsPc (m.run opc o) := by
  cases m
  case adc | sbc | usbc | and | ora | eor | bit | cmp | cpx | cpy | lda | ldx | ldy | alr | anc | arr | las
  | lax | lxa | sbx | ane =>
    exact readInstr_keepsPc fun _ _ => rfl
  case asl | lsr | rol | ror | inc | dec | slo | sre | rla | rra | isc | dcp =>
    exact rmwInstr_keepsPc (fun _ _ => rfl) fun _ _ => rfl
  case sta | stx | sty | sax => exact storeInstr_keepsPc
  case sha | shx | shy | tas => exact shxInstr_keepsPc fun _ => rfl
  case nop => exact nopInstr_keepsPc
  case inx | iny | dex | dey | tax | tay | txa | tya | tsx | txs | clc | sec | cli | sei | cld | sed | clv =>
    exact impliedInstr_keepsPc fun _ => rfl
  case pha | php => exact impliedInstr_keepsPc fun _ => push_pc _ _
  case pla => exact impliedInstr_keepsPc fun _ => by simp [opPla]
  case plp => exact impliedInstr_keepsPc fun _ => by simp [opPlp]
  case bcc | bcs | beq | bne | bmi | bpl | bvc | bvs | jmp | jsr | rts | rti | brk | jam =>
    exact absurd (by decide) hm

/-- Settles O11: PC moves by the length of the fetched instruction, and the meaning leaves it. -/
theorem programCounterAfterTick : Obligations.ProgramCounterAfterTick := by
  intro s t h hm
  rw [step_of_not_jammed (jammed_of_step h), exec_eq_run] at h
  exact (run_keepsPc hm _ _ h).trans (fetchInstr_pc (beginTick s))

end Sys2Proof.ProgramCounter
end

section
/-! PROOF. The fetch of a tick (40_dispatch R122, R125, R134): the opcode byte at PC says how many bytes the fetch reads, so bytes at PC
that encode an instruction are fetched as that instruction, one bus read each. -/

open Sys2Proof Sys2Proof.Machine Sys2Proof.Claims

namespace Sys2Proof.InstructionFetch

/-- If the bytes at PC are the encoding of `i`, the fetch gives `i` and leaves the state those reads leave (R122): each byte of
`bytesAtPc` is one `fetchByte`, and the form of the first one says how many follow. -/
theorem fetchInstr_of_bytes_eq_encode {i : Instr} {s : State}
    (h : (bytesAtPc (encode i).length s).1 = encode i) :
    fetchInstr s = (i, (bytesAtPc (encode i).length s).2) := by
  generalize hi : i.opcode = opc
  obtain ⟨w, rfl⟩ := Instr.exists_build hi
  rw [EncodingForms.encode_build] at h ⊢
  obtain ⟨hopc, htail⟩ : (fetchByte s).1 = opc ∧ _ := List.cons.inj h
  simp only [fetchInstr, hopc]
  cases hf : form opc with
  | imp j => rfl
  | byte f =>
    rw [hf] at htail
    obtain ⟨hlo, -⟩ : (fetchByte (fetchByte s).2).1 = lo8 w ∧ _ := List.cons.inj htail
    simp only [hlo]
    rfl
  | word f =>
    rw [hf] at htail
    obtain ⟨hlo, hrest⟩ : (fetchByte (fetchByte s).2).1 = lo8 w ∧ _ := List.cons.inj htail
    obtain ⟨hhi, -⟩ : (fetchByte (fetchByte (fetchByte s).2).2).1 = hi8 w ∧ _ := List.cons.inj hrest
    simp only [hlo, hhi, w16_hi8_lo8]
    rfl

/-- An address that holds a byte reads as that byte, and the read changes nothing (R85). -/
theorem memRead_of_byteAt {s : State} {a : Addr} {v : Byte} (h : byteAt s a = some v) :
    memRead a s = (v, s) := by
  revert h
  unfold byteAt memRead
  cases region a
  case ppu | apu | ctrl0 | ctrl1 => exact nofun
  case ram | oamDma | openBus | cartridge => exact fun h => congrArg (·, s) (Option.some.inj h)

/-- Bytes that stand in memory from PC on are read as they stand, and only PC moves (R122). -/
theorem bytesAtPc_of_byteAt (bs : List Byte) (s : State)
    (h : ∀ k (hk : k < bs.length), byteAt s (s.pc + BitVec.ofNat 16 k) = some bs[k]) :
    bytesAtPc bs.length s = (bs, { s with pc := s.pc + BitVec.ofNat 16 bs.length }) := by
  induction bs generalizing s with
  | nil => simp [bytesAtPc]
  | cons b bs ih =>
    have hfirst : memRead s.pc s = (b, s) :=
      memRead_of_byteAt (by simpa using h 0 (Nat.zero_lt_succ _))
    have hnext : ∀ n, s.pc + 1 + BitVec.ofNat 16 n = s.pc + BitVec.ofNat 16 (n + 1) := fun n => by
      rw [BitVec.add_assoc, Nat.add_comm, BitVec.ofNat_add]; rfl
    have hrest := ih { s with pc := s.pc + 1 } fun k hk => by
      rw [hnext]
      exact h (k + 1) (Nat.succ_lt_succ hk)
    simp only [List.length_cons, bytesAtPc, hfirst, hrest, hnext]

/-- Settles O8: bytes that decode to `i` with nothing left over are the encoding of `i`, and the tick fetches `i` from them. -/
theorem stepRunsDecodedInstruction : Obligations.StepRunsDecodedInstruction := by
  constructor
  · intro s i hj hdecode
    have hencode : (bytesAtPc i.operand.mode.length (beginTick s)).1 = encode i :=
      (EncodingForms.encodeDecodeRoundTrip _ _ _ hdecode).symm.trans (List.append_nil _)
    rw [← EncodingForms.length_encode] at hencode ⊢
    rw [step_of_not_jammed hj, fetchInstr_of_bytes_eq_encode hencode]
    rfl
  · intro s i hj hmem
    have hread := bytesAtPc_of_byteAt (encode i) (beginTick s) hmem
    have hfetch := fetchInstr_of_bytes_eq_encode (congrArg Prod.fst hread)
    rw [step_of_not_jammed hj, hfetch, hread]
    rfl

end Sys2Proof.InstructionFetch
end

section
/-! PROOF. The outcomes of a tick (40_dispatch R121, R128): a jammed core has no step, every other core answers a next state, because
every instruction's run comes to the end of its tick. -/

open Sys2Proof Sys2Proof.Machine Sys2Proof.Claims

namespace Sys2Proof.TickOutcome

/-- A read-modify-write ends its tick under Accumulator mode and under every other (R154, R190). -/
theorem rmwInstr_answers (opc : Byte) (f : Byte → State → Byte × State) (after : Byte → State → State)
    (o : Operand) (s : State) : ∃ t, rmwInstr opc f after o s = .next t := by
  cases o <;> exact ⟨_, rfl⟩

/-- Every instruction ends its tick, whatever the state (R128). -/
theorem run_answers (m : Mnemonic) (opc : Byte) (o : Operand) (s : State) :
    ∃ t, m.run opc o s = .next t := by
  cases m
  case asl | lsr | rol | ror | inc | dec | slo | sre | rla | rra | isc | dcp =>
    exact rmwInstr_answers _ _ _ _ _
  all_goals exact ⟨_, rfl⟩

theorem exec_answers (i : Instr) (s : State) : ∃ t, exec i s = .next t := by
  rw [exec_eq_run]
  exact run_answers _ _ _ _

/-- A JAM leaves the core jammed (R321). -/
theorem jammed_of_exec_jam {i : Instr} {s t : State} (hm : i.mnemonic = .jam)
    (h : exec i s = .next t) : t.jammed = true := by
  rw [exec_eq_run, hm] at h
  cases h
  rfl

/-- Settles O9: the step of a jammed core is the fault, with no fetch. -/
theorem jammedCoreHasNoStep : Obligations.JammedCoreHasNoStep := by
  intro s hj
  rw [step, if_pos hj]

/-- Settles O10: the fetched instruction answers a next state, and JAM alone jams. -/
theorem tickNeverFails : Obligations.TickNeverFails := by
  intro s hj
  obtain ⟨t, ht⟩ := exec_answers (fetchInstr (beginTick s)).1 (fetchInstr (beginTick s)).2
  have hstep : step s = .next t := by rw [step_of_not_jammed hj, ht]
  obtain ⟨-, -, hjam, -⟩ := Writers.constantsOfTheMachine s t hstep
  exact ⟨t, hstep, hjam, fun hm => jammed_of_exec_jam hm ht⟩

end Sys2Proof.TickOutcome
end

section
/-! PROOF. The extra cycles of a tick (40_dispatch R122, 45_branches R220): the tick starts at 0, and only a taken branch counts any. -/

open Sys2Proof Sys2Proof.Machine Sys2Proof.Claims

namespace Sys2Proof.ExtraCycles

/-- From `s` to `t` a taken branch counted 1 or 2 extra cycles, and anything else none. -/
def AddsExtra (taken : Bool) (s t : State) : Prop :=
  s.extra + taken.toNat ≤ t.extra ∧ t.extra ≤ s.extra + 2 * taken.toNat

theorem addsExtra_false_iff {s t : State} : AddsExtra false s t ↔ t.extra = s.extra := by
  simp only [AddsExtra, Bool.toNat_false]
  omega

/-! ### The access patterns. -/

section
variable {opc : Byte} {o : Operand} {s t : State}

/-- The end of a tick counts no extra cycle, so a run whose handler counts none counts none (R126). -/
theorem endTick_noExtra {crossed : Bool} {u : State} (hu : u.extra = s.extra)
    (h : endTick opc crossed u = .next t) : AddsExtra false s t := by
  cases h
  exact addsExtra_false_iff.mpr hu

theorem impliedInstr_noExtra {f : State → State} (hf : ∀ u, (f u).extra = u.extra) :
    impliedInstr opc f s = .next t → AddsExtra false s t :=
  endTick_noExtra (hf s)

theorem readInstr_noExtra {f : Byte → State → State} (hf : ∀ m u, (f m u).extra = u.extra) :
    readInstr opc f o s = .next t → AddsExtra false s t :=
  endTick_noExtra (by simp [hf])

theorem storeInstr_noExtra {value : State → Byte} :
    storeInstr opc value o s = .next t → AddsExtra false s t :=
  endTick_noExtra (by simp)

theorem rmwInstr_noExtra {f : Byte → State → Byte × State} {after : Byte → State → State}
    (hf : ∀ v u, (f v u).2.extra = u.extra) (ha : ∀ v u, (after v u).extra = u.extra) :
    rmwInstr opc f after o s = .next t → AddsExtra false s t := by
  cases o <;> exact endTick_noExtra (by simp [hf, ha])

theorem shxInstr_noExtra {first : State → State} {value : State → Byte}
    (hf : ∀ u, (first u).extra = u.extra) :
    shxInstr opc first value o s = .next t → AddsExtra false s t :=
  endTick_noExtra (by simp [shxStore, hf])

theorem nopInstr_noExtra : nopInstr opc o s = .next t → AddsExtra false s t :=
  endTick_noExtra (by split <;> simp)

theorem jmpInstr_noExtra : jmpInstr opc o s = .next t → AddsExtra false s t :=
  endTick_noExtra (by simp)

theorem jsrInstr_noExtra : jsrInstr opc o s = .next t → AddsExtra false s t :=
  endTick_noExtra (by simp)

/-- A taken branch counts 1 cycle, and 1 more if the target is on another page (R220). -/
theorem branchTo_addsExtra (cond : Bool) (ea : Addr) (u : State) :
    AddsExtra cond u (branchTo cond ea u) := by
  cases cond
  case false => exact addsExtra_false_iff.mpr rfl
  case true =>
    simp only [AddsExtra, branchTo, Bool.toNat_true, if_true, State.setPc_extra, State.setExtra_extra]
    split <;> omega

theorem branchInstr_addsExtra {cond : Bool} (h : branchInstr opc cond o s = .next t) :
    AddsExtra cond s t := by
  have hbranch := branchTo_addsExtra cond (resolve o s).1.ea (resolve o s).2
  cases h
  rwa [AddsExtra, resolve_extra] at hbranch

end

/-! ### Every instruction. -/

/-- An instruction counts extra cycles exactly if it is a branch that is taken, by its access pattern. -/
theorem exec_addsExtra {i : Instr} {s t : State} (h : exec i s = .next t) :
    AddsExtra (branchTaken i s.p) s t := by
  rw [exec_eq_run] at h
  revert h
  unfold branchTaken
  generalize i.mnemonic = m
  cases m
  case bcc | bcs | beq | bne | bmi | bpl | bvc | bvs => exact branchInstr_addsExtra
  case adc | sbc | usbc | and | ora | eor | bit | cmp | cpx | cpy | lda | ldx | ldy | alr | anc | arr | las
  | lax | lxa | sbx | ane =>
    exact readInstr_noExtra fun _ _ => rfl
  case asl | lsr | rol | ror | inc | dec | slo | sre | rla | rra | isc | dcp =>
    exact rmwInstr_noExtra (fun _ _ => rfl) fun _ _ => rfl
  case sta | stx | sty | sax => exact storeInstr_noExtra
  case sha | shx | shy | tas => exact shxInstr_noExtra fun _ => rfl
  case nop => exact nopInstr_noExtra
  case jmp => exact jmpInstr_noExtra
  case jsr => exact jsrInstr_noExtra
  case inx | iny | dex | dey | tax | tay | txa | tya | tsx | txs | clc | sec | cli | sei | cld | sed | clv
  | jam =>
    exact impliedInstr_noExtra fun _ => rfl
  case pha | php => exact impliedInstr_noExtra fun _ => push_extra _ _
  case pla => exact impliedInstr_noExtra fun _ => by simp [opPla]
  case plp => exact impliedInstr_noExtra fun _ => by simp [opPlp]
  case rts => exact impliedInstr_noExtra fun _ => by simp [opRts]
  case rti => exact impliedInstr_noExtra fun _ => by simp [returnFromTrap]
  case brk => exact impliedInstr_noExtra fun _ => by simp [takeTrap]

/-- A tick counts its extra cycles from 0, and its instruction sees the flags from before the tick (R122). -/
theorem step_addsExtra {s t : State} (h : step s = .next t) :
    AddsExtra (branchTaken (fetched s) s.p) (beginTick s) t := by
  rw [step_of_not_jammed (jammed_of_step h)] at h
  have hadds := exec_addsExtra h
  rwa [AddsExtra, fetchInstr_p, fetchInstr_extra] at hadds

/-- Settles O12: counted from 0, the bounds on the extra cycles are the statement. -/
theorem extraCyclesOnlyFromBranches : Obligations.ExtraCyclesOnlyFromBranches := by
  intro s t h
  obtain ⟨hlow, hhigh⟩ := step_addsExtra h
  have hzero : (beginTick s).extra = 0 := rfl
  rw [hzero, Nat.zero_add] at hlow hhigh
  have hone : (branchTaken (fetched s) s.p).toNat ≤ 1 := Bool.toNat_le _
  refine ⟨by omega, fun hno => ?_, fun htaken => ?_⟩
  · rw [hno, Bool.toNat_false] at hhigh
    omega
  · rwa [htaken, Bool.toNat_true] at hlow

end Sys2Proof.ExtraCycles
end

section
/-! PROOF. Effective addresses (41_addressing R140 to R153, R156): the modes without a pointer in the numbers of the rules, the
pointer modes as two bus reads, and that resolving and reading an operand are bus reads and nothing else. -/

open Sys2Proof Sys2Proof.Machine Sys2Proof.Claims

namespace Sys2Proof.Addressing

/-! ### Zero-page, indexed and relative addresses (R143 to R148, R152). -/

theorem zeroPage_eq_ofNat (b : Byte) : zeroPage b = BitVec.ofNat 16 b.toNat := by
  simp [zeroPage, w16]

theorem toNat_zeroPage (b : Byte) : (zeroPage b).toNat = b.toNat := by
  simp [zeroPage, toNat_w16]

/-- A zero-page index wraps within page 00 (R144, R145). -/
theorem zeroPage_add (b index : Byte) :
    zeroPage (b + index) = BitVec.ofNat 16 ((b.toNat + index.toNat) % 256) := by
  rw [zeroPage_eq_ofNat, BitVec.toNat_add]

theorem toNat_add_index (base : Addr) (index : Byte) :
    (base + index.setWidth 16).toNat = (base.toNat + index.toNat) % 65536 := by
  have hindex := index.isLt
  rw [BitVec.toNat_add, BitVec.toNat_setWidth]
  omega

/-- A base plus an index, in numbers (R147, R148). -/
theorem indexed_eq (base : Addr) (index : Byte) :
    indexed base index = ⟨BitVec.ofNat 16 ((base.toNat + index.toNat) % 65536),
      decide (base.toNat % 256 + index.toNat > 0xFF), base⟩ := by
  rw [indexed, pageCrossed, toNat_lo8, ← toNat_add_index, BitVec.ofNat_toNat, BitVec.setWidth_eq]

/-- A carry out of the low byte is a change of page, for an index is less than a page (R147). -/
theorem indexed_crossed_iff (base : Addr) (index : Byte) :
    (indexed base index).crossed = true ↔
      (indexed base index).ea.toNat / 256 ≠ base.toNat / 256 := by
  have hbase := base.isLt
  have hindex := index.isLt
  simp only [indexed, pageCrossed, toNat_lo8, toNat_add_index, decide_eq_true_eq]
  omega

/-- A branch offset is signed, and the sum wraps at 65536 (R9, R152). -/
theorem toNat_add_sext8 (pc : Addr) (offset : Byte) :
    ((pc + sext8 offset).toNat : Int) = ((pc.toNat : Int) + offset.toInt) % 65536 := by
  have hsext : sext8 offset = BitVec.ofInt 16 offset.toInt := rfl
  rw [hsext, BitVec.toNat_add, BitVec.toNat_ofInt]
  omega

/-- Settles O20: each of the eight resolvers in numbers. -/
theorem directAndIndexedAddresses : Obligations.DirectAndIndexedAddresses := by
  intro b w s
  refine ⟨?_, ?_, ?_, rfl, ?_, ?_, indexed_crossed_iff w s.x, toNat_add_sext8 s.pc b, rfl, rfl⟩
  · rw [resolve, direct, zeroPage_eq_ofNat]
  · rw [resolve, zeroPage_add, zeroPage_eq_ofNat]
  · rw [resolve, zeroPage_add, zeroPage_eq_ofNat]
  · rw [resolve, indexed_eq]
  · rw [resolve, indexed_eq]

/-! ### Pointers (R90, R149 to R151, R156). -/

/-- The high byte of a pointer is read from the next address of the same page (R149). -/
theorem next_in_page {p q : Addr}
    (hq : q.toNat = p.toNat / 256 * 256 + (p.toNat % 256 + 1) % 256) :
    w16 (hi8 p) (lo8 p + 1) = q := by
  apply BitVec.eq_of_toNat_eq
  rw [toNat_w16, toNat_hi8, BitVec.toNat_add, toNat_lo8, hq]
  rfl

/-- `ind` is two bus reads, low byte first, whatever the two addresses are (R149). -/
theorem resolve_ind {p q : Addr} (s : State)
    (hq : q.toNat = p.toNat / 256 * 256 + (p.toNat % 256 + 1) % 256) :
    resolve (.ind p) s = (direct (w16 (memRead q (memRead p s).2).1 (memRead p s).1),
      (memRead q (memRead p s).2).2) := by
  rw [resolve, readPointer, next_in_page hq]

/-- A read of a device register is a recorded answer of its port (R90). -/
theorem memRead_devicePort {a : Addr} {port : ExtPort} (h : devicePort a = some port) (s : State) :
    memRead a s = answered port s := by
  obtain ⟨hppu, hapu, hctrl0, hctrl1⟩ := BusWindows.deviceReadsAreRecordedAnswers a s
  unfold devicePort at h
  split_ifs at h with h1 h2 h3 h4 <;> cases h
  · exact hppu h1.1 h1.2
  · exact hapu h2
  · exact hctrl0 h3
  · exact hctrl1 h4

/-- JMP through a pointer goes where the pointer resolves to, in 5 cycles (R250). -/
theorem exec_jmpInd {p ea : Addr} {s t : State} (h : resolve (.ind p) s = (direct ea, t)) :
    exec (.jmpInd p) s = .next { t with pc := ea, tickCycles := 5 + t.extra } := by
  have hjmp : exec (.jmpInd p) s = jmpInstr 0x6C (.ind p) s := rfl
  rw [hjmp, jmpInstr, h, endTick_of_descriptor rfl rfl]
  rfl

theorem memRead_zeroPage (b : Byte) (s : State) :
    memRead (zeroPage b) s = (s.ram.read b.toNat, s) := by
  have hb := b.isLt
  have hkey : b.toNat % 2048 = b.toNat := by omega
  rw [BusWindows.memRead_ram_window s (by rw [toNat_zeroPage]; omega), toNat_zeroPage, hkey]

/-- A zero-page pointer lies in RAM and wraps within page 00 (R150, R151). -/
theorem readPointer_zeroPage (b : Byte) (s : State) :
    readPointer (zeroPage b) s =
      (w16 (s.ram.read ((b.toNat + 1) % 256)) (s.ram.read b.toNat), s) := by
  have hnext : w16 (hi8 (zeroPage b)) (lo8 (zeroPage b) + 1) = zeroPage (b + 1) := by
    simp [zeroPage]
  have hkey : (b + 1).toNat = (b.toNat + 1) % 256 := BitVec.toNat_add b 1
  simp only [readPointer, hnext, memRead_zeroPage, hkey]

/-- Settles O21: the pointer modes, by what the two reads of the pointer answer. -/
theorem pointerAddresses : Obligations.PointerAddresses := by
  refine ⟨fun p q lo hi s hq hlo hhi => ?_, fun p q s hq => resolve_ind s hq,
    fun p q l h s hq hl hh => ?_, fun b s target htarget => ?_, fun b s base hbase => ?_⟩
  · rw [resolve_ind s hq, memRead_of_byteAt hlo, memRead_of_byteAt hhi]
    rfl
  · have hind := resolve_ind s hq
    rw [memRead_devicePort hl, memRead_devicePort hh] at hind
    exact ⟨hind, List.append_assoc _ _ _, exec_jmpInd hind⟩
  · have hlow : (b + s.x).toNat = (b.toNat + s.x.toNat) % 256 := BitVec.toNat_add b s.x
    rw [resolve, readPointer_zeroPage, hlow, Nat.mod_add_mod, htarget]
    rfl
  · have hlow : base % 256 = (s.ram.read b.toNat).toNat := by
      have hlt := (s.ram.read b.toNat).isLt
      omega
    rw [resolve, readPointer_zeroPage, indexed_eq, toNat_w16, ← hbase, hlow, hbase]
    rfl

/-! ### The operand value (R142, R153, R156). -/

/-- From `s` to `t` the history grew and the external reads were counted, and nothing else happened. -/
def OnlyReads (s t : State) : Prop :=
  ∃ es n, t = { s with events := s.events ++ es, extReads := n }

theorem OnlyReads.refl (s : State) : OnlyReads s s := ⟨[], s.extReads, by simp⟩

theorem OnlyReads.trans {s t u : State} (h : OnlyReads s t) (k : OnlyReads t u) : OnlyReads s u := by
  obtain ⟨es, n, rfl⟩ := h
  obtain ⟨fs, m, rfl⟩ := k
  exact ⟨es ++ fs, m, by simp⟩

theorem OnlyReads.byteAt {s t : State} (h : OnlyReads s t) (a : Addr) :
    Machine.byteAt t a = Machine.byteAt s a := by
  obtain ⟨es, n, rfl⟩ := h
  exact byteAt_congr rfl rfl a

theorem memRead_onlyReads (a : Addr) (s : State) : OnlyReads s (memRead a s).2 := by
  obtain h | ⟨port, h⟩ := memRead_cases a s <;> rw [h]
  · exact .refl s
  · exact ⟨[_], _, rfl⟩

theorem readPointer_onlyReads (p : Addr) (s : State) : OnlyReads s (readPointer p s).2 :=
  (memRead_onlyReads _ s).trans (memRead_onlyReads _ _)

/-- Only the pointer modes read the bus to find the address (R130). -/
theorem resolve_onlyReads (o : Operand) (s : State) : OnlyReads s (resolve o s).2 := by
  cases o
  case ind | izx | izy => exact readPointer_onlyReads _ s
  all_goals exact .refl s

/-- Every mode with a memory operand reads the effective address once (R153). -/
theorem operandByte_of_memory {o : Operand} (himp : o.mode ≠ .imp) (hacc : o.mode ≠ .acc)
    (himm : o.mode ≠ .imm) (r : Resolved) (s : State) : operandByte o r s = memRead r.ea s := by
  cases o
  case imp => exact absurd rfl himp
  case acc => exact absurd rfl hacc
  case imm => exact absurd rfl himm
  all_goals rfl

theorem operandByte_onlyReads (o : Operand) (r : Resolved) (s : State) :
    OnlyReads s (operandByte o r s).2 := by
  cases o
  case imp | acc | imm => exact .refl s
  all_goals exact memRead_onlyReads _ s

/-- Settles O22: M by mode, and resolving and reading it only read. -/
theorem operandValueAndItsFrame : Obligations.OperandValueAndItsFrame := by
  intro o r s
  have hresolve := resolve_onlyReads o s
  refine ⟨?_, ?_, fun himp hacc himm => operandByte_of_memory himp hacc himm r s, hresolve,
    operandByte_onlyReads o r s, (hresolve.trans (operandByte_onlyReads o r _)).byteAt⟩
  · rintro rfl
    rfl
  · rintro v rfl
    rfl

end Sys2Proof.Addressing
end

section
/-! PROOF. Which bytes of memory a storing form can change (41_addressing R154, R155, 49_undocumented R322): its one bus write
goes to the address `storeAddress` names, and whatever else it does leaves every byte alone. -/

open Sys2Proof Sys2Proof.Machine Sys2Proof.Claims

namespace Sys2Proof.StoreTarget

/-- A run from `s` that, when it answers a next state, changed no byte but the one at `target`. -/
def WritesOnlyAt (target : Addr) (s : State) (outcome : Result) : Prop :=
  ∀ ⦃t : State⦄, outcome = .next t → ∀ a, region a ≠ region target → byteAt t a = byteAt s a

/-! ### The access patterns. -/

section
variable {opc : Byte} {o : Operand} {s : State}

theorem byteAt_resolve (a : Addr) : byteAt (resolve o s).2 a = byteAt s a :=
  byteAt_congr (resolve_ram s o) (resolve_cart s o) a

/-- One bus write between two parts of a tick that leave every byte alone. -/
theorem endTick_writesOnlyAt {target : Addr} {v : Byte} {crossed : Bool} {before after : State}
    (hbefore : ∀ a, byteAt before a = byteAt s a)
    (hafter : ∀ a, byteAt after a = byteAt (memWrite target v before) a) :
    WritesOnlyAt target s (endTick opc crossed after) := by
  intro t h a ha
  calc byteAt t a = byteAt after a := MemoryFrame.byteAt_endTick h
    _ = byteAt (memWrite target v before) a := hafter a
    _ = byteAt before a := byteAt_memWrite_other ha v before
    _ = byteAt s a := hbefore a

theorem storeInstr_writesOnlyAt {value : State → Byte} :
    WritesOnlyAt (resolve o s).1.ea s (storeInstr opc value o s) :=
  endTick_writesOnlyAt byteAt_resolve fun _ => rfl

/-- A read-modify-write writes the address it read, or A under Accumulator mode (R154, R190). -/
theorem rmwInstr_writesOnlyAt {f : Byte → State → Byte × State} {second : Byte → State → State}
    (hf : ∀ v u a, byteAt (f v u).2 a = byteAt u a)
    (hsecond : ∀ v u a, byteAt (second v u) a = byteAt u a) :
    WritesOnlyAt (resolve o s).1.ea s (rmwInstr opc f second o s) := by
  cases o
  case acc =>
    intro t h a _
    exact (MemoryFrame.byteAt_endTick h).trans ((hsecond _ _ a).trans (hf s.a s a))
  all_goals
    exact endTick_writesOnlyAt
      (fun a => (hf _ _ a).trans ((byteAt_memRead _ a _).trans (byteAt_resolve a)))
      (hsecond _ _)

/-- `SHxStore` writes the value the handler starts from, ANDed with H+1, where R322 says. -/
theorem shxInstr_writesOnlyAt {first : State → State} {value : State → Byte} {v0 : Byte}
    (hfirst : ∀ u a, byteAt (first u) a = byteAt u a) (hparams : ∀ u, (first u).params = u.params)
    (hvalue : value (first (resolve o s).2) = v0) :
    WritesOnlyAt (shxAddress s.params.shxAddrGlitch (resolve o s).1
        (v0 &&& highPlusOne (resolve o s).1)) s (shxInstr opc first value o s) := by
  have hglitch : (first (resolve o s).2).params = s.params :=
    (hparams _).trans (resolve_params s o)
  have hfirst_resolve : ∀ a, byteAt (first (resolve o s).2) a = byteAt s a :=
    fun a => (hfirst _ a).trans (byteAt_resolve a)
  rw [shxInstr, shxStore, hglitch, hvalue]
  exact endTick_writesOnlyAt hfirst_resolve fun _ => rfl

end

/-! ### Every storing form. -/

/-- A storing form writes at `storeAddress` only, by its access pattern. -/
theorem exec_writesOnlyAt {i : Instr} (hstore : storesAtTarget i) (s : State) :
    WritesOnlyAt (storeAddress i s) s (exec i s) := by
  rw [exec_eq_run]
  unfold storeAddress
  unfold storesAtTarget at hstore
  generalize i.mnemonic = m at hstore ⊢
  cases m
  case sta | stx | sty | sax => exact storeInstr_writesOnlyAt
  case asl | lsr | rol | ror | inc | dec | dcp | isc | rla | rra | slo | sre =>
    exact rmwInstr_writesOnlyAt (fun _ _ _ => rfl) fun _ _ _ => rfl
  case sha | shx | shy | tas =>
    exact shxInstr_writesOnlyAt (fun _ _ => rfl) (fun _ => rfl) (by simp [keepSp, tasSp, shaValue])
  all_goals exact absurd hstore (by simp)

/-- Settles O49: the one byte a storing form writes is the one at its computed address. -/
theorem storingFormsWriteOnlyTheirTarget : Obligations.StoringFormsWriteOnlyTheirTarget := by
  rintro i s t hstore h a _ rfl ha
  exact exec_writesOnlyAt hstore s h a ha

end Sys2Proof.StoreTarget
end

section
/-! PROOF. How a statement of the form `Completes` is settled for a whole mnemonic (30_encoding R110, 40_dispatch R125, R126): the
rows of the Instruction Table give the mode and the cycles of each entry, the mnemonic gives the handler. -/

open Sys2Proof Sys2Proof.Machine Sys2Proof.Claims

namespace Sys2Proof.Completion

/-- The row of the Instruction Table that an entry of R110 stands for, under its mnemonic. -/
def entryRow (m : Mnemonic) (e : TableEntry) : Descriptor := ⟨m, e.2.1, .fixed e.2.2.1, e.2.2.2⟩

/-- Each entry is the table's row at its opcode byte, with the mnemonic `m`. -/
abbrev RowsOf (m : Mnemonic) (entries : List TableEntry) : Prop :=
  ∀ e ∈ entries, descriptorOf e.1 = entryRow m e

/-- The end of a tick counts what the entry of its opcode byte says (R126). -/
theorem endTick_of_entry {m : Mnemonic} {e : TableEntry} (hrow : descriptorOf e.1 = entryRow m e)
    (crossed : Bool) (t : State) : endTick e.1 crossed t = .next (counted e crossed t) :=
  endTick_of_descriptor hrow rfl crossed t

section
variable {m : Mnemonic} {entries : List TableEntry}

/-- Entries of one mnemonic complete with the result its run ends in. -/
theorem completes_of_run {result : Instr → State → State × Bool} (hrows : RowsOf m entries)
    (hrun : ∀ (i : Instr) (s : State),
      m.run i.opcode i.operand s = endTick i.opcode (result i s).2 (result i s).1) :
    Completes entries result := by
  intro e he i s hopc
  have hrow := hrows e he
  have hmnemonic : m = i.mnemonic := by
    simpa [hopc, hrow, entryRow] using i.descriptor_mnemonic
  have hmode : e.2.1 = i.operand.mode := by
    simpa [hopc, hrow, entryRow] using i.descriptor_mode
  refine ⟨hmode.symm, ?_⟩
  rw [exec_eq_run, ← hmnemonic, hrun, hopc, endTick_of_entry hrow]

/-- Entries of a read mnemonic complete with what its handler does with the operand value. -/
theorem readCompletes_of_run {f post : Byte → State → State} (hrows : RowsOf m entries)
    (hrun : ∀ opc o s, m.run opc o s = readInstr opc f o s) (hpost : ∀ v s, f v s = post v s) :
    ReadCompletes entries post := by
  obtain rfl : f = post := funext₂ hpost
  exact completes_of_run hrows fun i s => hrun i.opcode i.operand s

end

end Sys2Proof.Completion
end

section
/-! PROOF. Arithmetic and logic (42_arith_logic R170 to R176): the handlers in the numbers of the rules, and the signed and
borrow readings of V and C. -/

open Sys2Proof Sys2Proof.Machine Sys2Proof.Claims Sys2Proof.Completion

namespace Sys2Proof.ArithLogic

/-! ### The add core (R170, R172). -/

theorem addCore_a (m : Byte) (s : State) :
    (addCore m s).a = BitVec.ofNat 8 (addSum s.a m s.p.c) := rfl

theorem addCore_c (m : Byte) (s : State) : (addCore m s).p.c = carry7 s.a m s.p.c := rfl

theorem addCore_v (m : Byte) (s : State) :
    (addCore m s).p.v = (carry6 s.a m s.p.c ^^ carry7 s.a m s.p.c) := rfl

/-- Reducing before making the byte changes nothing (R9). -/
theorem mod256_mod (n : Nat) : mod256 (n % 256) = BitVec.ofNat 8 n :=
  BitVec.eq_of_toNat_eq (by simp [mod256])

/-- The complement of R9 is the bitwise one. -/
theorem complement_eq_not (v : Byte) : complement v = ~~~v :=
  BitVec.eq_of_toNat_eq (by
    rw [complement, mod256, BitVec.toNat_ofNat, BitVec.toNat_not]
    omega)

/-- The add core is R170 in exact integers. -/
theorem addCore_eq_added (m : Byte) (s : State) : addCore m s = added m s := by
  have hcarry : (if s.p.c then 1 else 0) = s.p.c.toNat := by cases s.p.c <;> rfl
  simp only [added, hcarry, mod256_mod]
  rw [addCore, Bool.xor_comm]
  rfl

theorem opSbc_eq_added (m : Byte) (s : State) : opSbc m s = added (complement m) s := by
  rw [opSbc, addCore_eq_added, complement_eq_not]

/-- Settles O23: three mnemonics run the add core, ADC on M and the other two on its complement. -/
theorem addAndSubtract : Obligations.AddAndSubtract :=
  ⟨readCompletes_of_run (m := .adc) (by decide) (fun _ _ _ => rfl) addCore_eq_added,
    readCompletes_of_run (m := .sbc) (by decide) (fun _ _ _ => rfl) opSbc_eq_added,
    readCompletes_of_run (m := .usbc) (by decide) (fun _ _ _ => rfl) opSbc_eq_added⟩

/-! ### What V and C mean (R170, R172). -/

/-- A byte as a signed number: its low seven bits, less 128 if bit 7 is set. -/
theorem toInt_byte (b : Byte) : b.toInt = (b.toNat % 128 : Nat) - 128 * (b.toNat / 128 : Nat) := by
  have hlt := b.isLt
  rw [BitVec.toInt_eq_toNat_cond]
  split <;> omega

/-- The carries out of bits 6 and 7 differ exactly if the signed sum does not fit in a byte. -/
theorem carry6_xor_carry7 (a m : Byte) (c : Bool) :
    (carry6 a m c ^^ carry7 a m c) = true ↔
      a.toInt + m.toInt + c.toNat < -128 ∨ 127 < a.toInt + m.toInt + c.toNat := by
  have ha := a.isLt
  have hm := m.isLt
  have hc := c.toNat_le
  rw [toInt_byte, toInt_byte, carry6, carry7, addSum, Bool.xor_iff_ne, ne_eq, decide_eq_decide]
  omega

/-- The signed reading of the complement (R9). -/
theorem toInt_not_byte (b : Byte) : (~~~b).toInt = -1 - b.toInt := by
  have hlt := b.isLt
  rw [toInt_byte, toInt_byte, BitVec.toNat_not]
  omega

section
variable (m : Byte) (s : State)

/-- V of the add core is signed overflow (R170). -/
theorem addCore_v_iff : (addCore m s).p.v = true ↔
    s.a.toInt + m.toInt + s.p.c.toNat < -128 ∨ 127 < s.a.toInt + m.toInt + s.p.c.toNat := by
  rw [addCore_v, carry6_xor_carry7]

/-- SBC subtracts M and the borrow, mod 256 (R172). -/
theorem opSbc_a : ((opSbc m s).a.toNat : Int) =
    ((s.a.toNat : Int) - m.toNat - (1 - s.p.c.toNat)) % 256 := by
  have hm := m.isLt
  rw [opSbc, addCore_a, addSum, BitVec.toNat_ofNat, BitVec.toNat_not]
  omega

/-- C after SBC says that there was no borrow (R172). -/
theorem opSbc_c_iff : (opSbc m s).p.c = true ↔
    0 ≤ (s.a.toNat : Int) - m.toNat - (1 - s.p.c.toNat) := by
  have hm := m.isLt
  rw [opSbc, addCore_c, carry7, addSum, BitVec.toNat_not, decide_eq_true_eq]
  omega

/-- V after SBC is signed overflow of the difference (R172). -/
theorem opSbc_v_iff : (opSbc m s).p.v = true ↔
    s.a.toInt - m.toInt - (1 - s.p.c.toNat) < -128 ∨
      127 < s.a.toInt - m.toInt - (1 - s.p.c.toNat) := by
  rw [opSbc, addCore_v_iff, toInt_not_byte]
  omega

end

/-- Settles O24: the four readings, with the carry written as a number. -/
theorem signedOverflowAndBorrow : Obligations.SignedOverflowAndBorrow := by
  intro m s c
  have hc : c = s.p.c.toNat := by cases h : s.p.c <;> simp [c, h]
  rw [hc]
  exact ⟨addCore_v_iff m s, opSbc_a m s, opSbc_c_iff m s, opSbc_v_iff m s⟩

/-! ### AND, ORA, EOR, BIT (R173 to R176). -/

/-- Settles O25: each mnemonic runs one handler, which is the statement's update by definition. -/
theorem logicalOperations : Obligations.LogicalOperations :=
  ⟨readCompletes_of_run (m := .and) (by decide) (fun _ _ _ => rfl) fun _ _ => rfl,
    readCompletes_of_run (m := .ora) (by decide) (fun _ _ _ => rfl) fun _ _ => rfl,
    readCompletes_of_run (m := .eor) (by decide) (fun _ _ _ => rfl) fun _ _ => rfl,
    readCompletes_of_run (m := .bit) (by decide) (fun _ _ _ => rfl) fun _ _ => rfl⟩

end Sys2Proof.ArithLogic
end

section
/-! PROOF. How a statement about a read-modify-write is settled for a whole mnemonic (41_addressing R154, 43_shift_rotate R190): the
access pattern splits into Accumulator mode and the memory modes, and the modes of the entries say which of the two applies. -/

open Sys2Proof Sys2Proof.Machine Sys2Proof.Claims

namespace Sys2Proof.Completion

section
variable {m : Mnemonic} {entries : List TableEntry} {f : Byte → State → Byte × State}
  {after : Byte → State → State}

/-- As `completes_of_run`, for a run that ends in the result only under some modes, the entries' among them. -/
theorem completes_of_run_in_mode {inMode : Mode → Prop} {result : Instr → State → State × Bool}
    (hrows : RowsOf m entries) (hmodes : ∀ e ∈ entries, inMode e.2.1)
    (hrun : ∀ (i : Instr) (s : State), inMode i.operand.mode →
      m.run i.opcode i.operand s = endTick i.opcode (result i s).2 (result i s).1) :
    Completes entries result := by
  intro e he i s hopc
  have hrow := hrows e he
  have hmnemonic : m = i.mnemonic := by
    simpa [hopc, hrow, entryRow] using i.descriptor_mnemonic
  have hmode : e.2.1 = i.operand.mode := by
    simpa [hopc, hrow, entryRow] using i.descriptor_mode
  refine ⟨hmode.symm, ?_⟩
  rw [exec_eq_run, ← hmnemonic, hrun i s (hmode ▸ hmodes e he), hopc, endTick_of_entry hrow]

/-- Under a memory mode: one read of the effective address, one write of the result to it (R154). -/
theorem rmwInstr_memory {o : Operand} (ho : o.mode ≠ .acc) (opc : Byte) (s : State) :
    rmwInstr opc f after o s =
      let r := resolve o s
      let v := f (memRead r.1.ea r.2).1 (memRead r.1.ea r.2).2
      endTick opc r.1.crossed (after v.1 (memWrite r.1.ea v.1 v.2)) := by
  cases o
  case acc => exact absurd rfl ho
  all_goals rfl

/-- A result and the flags it leaves, as a read-modify-write of the model hands them on. -/
def withStatus (r : Byte × Status) (s : State) : Byte × State := (r.1, { s with p := r.2 })

/-- Memory entries of a read-modify-write mnemonic complete with the result and flags its handler computes. -/
theorem rmwCompletes_of_run {g : Byte → State → Byte × Status} {second : Byte → State → State}
    (hrows : RowsOf m entries) (hmodes : ∀ e ∈ entries, e.2.1 ≠ .acc)
    (hrun : ∀ opc o s, m.run opc o s = rmwInstr opc f after o s)
    (hf : ∀ v s, f v s = withStatus (g v s) s) (hafter : ∀ v s, after v s = second v s) :
    RmwCompletes entries g second := by
  obtain rfl : f = fun v s => withStatus (g v s) s := funext₂ hf
  obtain rfl : after = second := funext₂ hafter
  exact completes_of_run_in_mode (inMode := (· ≠ .acc)) hrows hmodes fun i s ho =>
    (hrun i.opcode i.operand s).trans (rmwInstr_memory ho i.opcode s)

/-- The Accumulator entry of a read-modify-write mnemonic completes with A in place of memory (R190). -/
theorem accumulatorCompletes_of_run {g : Byte → State → Byte × Status}
    (hrows : RowsOf m entries) (hmodes : ∀ e ∈ entries, e.2.1 = .acc)
    (hrun : ∀ opc o s, m.run opc o s = rmwInstr opc f noFollowUp o s)
    (hf : ∀ v s, f v s = withStatus (g v s) s) :
    AccumulatorCompletes entries g := by
  obtain rfl : f = fun v s => withStatus (g v s) s := funext₂ hf
  refine completes_of_run_in_mode (inMode := (· = .acc)) hrows hmodes fun i s ho => ?_
  rw [hrun, MemoryFrame.operand_eq_acc ho]
  rfl

end

end Sys2Proof.Completion
end

section
/-! PROOF. Shifts and rotates (43_shift_rotate R190 to R194): the four results in the numbers of the rules. -/

open Sys2Proof Sys2Proof.Machine Sys2Proof.Claims Sys2Proof.Completion

namespace Sys2Proof.ShiftRotate

/-! ### The results (R191 to R194). -/

section
variable (v : Byte)

theorem shiftLeft_eq : shiftLeft v = mod256 (2 * v.toNat % 256) :=
  BitVec.eq_of_toNat_eq (by
    simp only [shiftLeft, mod256, BitVec.toNat_shiftLeft, BitVec.toNat_ofNat, Nat.shiftLeft_eq]
    omega)

theorem shiftRight_eq : shiftRight v = mod256 (v.toNat / 2) :=
  BitVec.eq_of_toNat_eq (by
    have hlt := v.isLt
    simp only [shiftRight, mod256, BitVec.toNat_ushiftRight, BitVec.toNat_ofNat,
      Nat.shiftRight_eq_div_pow]
    omega)

/-- The bit a left shift vacates is free for the carry, so folding it in adds it. -/
theorem rotateLeft_eq_add (c : Bool) : rotateLeft v c = shiftLeft v + carryByte c := by
  have hfree : shiftLeft v &&& carryByte c = 0 := by
    ext i
    cases c <;> simp +contextual [shiftLeft, carryByte]
  rw [BitVec.add_eq_or_of_and_eq_zero _ _ hfree]
  rfl

/-- The same for bit 7 after a right shift. -/
theorem rotateRight_eq_add (c : Bool) : rotateRight v c = shiftRight v + carryByte c <<< 7 := by
  have hfree : shiftRight v &&& carryByte c <<< 7 = 0 := by
    ext i
    by_cases hi : i < 7
    · simp [hi]
    · simp [shiftRight, BitVec.getLsbD_of_ge v (1 + i) (by omega)]
  rw [BitVec.add_eq_or_of_and_eq_zero _ _ hfree]
  rfl

theorem rotateLeft_eq (c : Bool) :
    rotateLeft v c = mod256 ((2 * v.toNat + if c then 1 else 0) % 256) := by
  rw [rotateLeft_eq_add, shiftLeft_eq]
  apply BitVec.eq_of_toNat_eq
  cases c <;> simp [carryByte, mod256]

theorem rotateRight_eq (c : Bool) :
    rotateRight v c = mod256 (v.toNat / 2 + if c then 128 else 0) := by
  rw [rotateRight_eq_add, shiftRight_eq]
  apply BitVec.eq_of_toNat_eq
  cases c <;> simp [carryByte, mod256]

end

/-! ### The handlers. -/

section
variable (v : Byte) (s : State)

theorem stepAsl_eq_shiftedLeft : stepAsl v s = withStatus (shiftedLeft v s) s := by
  rw [stepAsl, shiftLeft_eq]
  rfl

theorem stepLsr_eq_shiftedRight : stepLsr v s = withStatus (shiftedRight v s) s := by
  rw [stepLsr, shiftRight_eq]
  rfl

theorem stepRol_eq_rotatedLeft : stepRol v s = withStatus (rotatedLeft v s) s := by
  rw [stepRol, rotateLeft_eq]
  rfl

theorem stepRor_eq_rotatedRight : stepRor v s = withStatus (rotatedRight v s) s := by
  rw [stepRor, rotateRight_eq]
  rfl

end

/-- Settles O26: each mnemonic runs one handler, on A under Accumulator mode and on memory under
the others. -/
theorem shiftsAndRotates : Obligations.ShiftsAndRotates :=
  ⟨accumulatorCompletes_of_run (m := .asl) (by decide) (by decide) (fun _ _ _ => rfl)
      stepAsl_eq_shiftedLeft,
    rmwCompletes_of_run (m := .asl) (by decide) (by decide) (fun _ _ _ => rfl)
      stepAsl_eq_shiftedLeft fun _ _ => rfl,
    accumulatorCompletes_of_run (m := .lsr) (by decide) (by decide) (fun _ _ _ => rfl)
      stepLsr_eq_shiftedRight,
    rmwCompletes_of_run (m := .lsr) (by decide) (by decide) (fun _ _ _ => rfl)
      stepLsr_eq_shiftedRight fun _ _ => rfl,
    accumulatorCompletes_of_run (m := .rol) (by decide) (by decide) (fun _ _ _ => rfl)
      stepRol_eq_rotatedLeft,
    rmwCompletes_of_run (m := .rol) (by decide) (by decide) (fun _ _ _ => rfl)
      stepRol_eq_rotatedLeft fun _ _ => rfl,
    accumulatorCompletes_of_run (m := .ror) (by decide) (by decide) (fun _ _ _ => rfl)
      stepRor_eq_rotatedRight,
    rmwCompletes_of_run (m := .ror) (by decide) (by decide) (fun _ _ _ => rfl)
      stepRor_eq_rotatedRight fun _ _ => rfl⟩

end Sys2Proof.ShiftRotate
end

section
/-! PROOF. How a statement about an instruction without a memory operand is settled for a whole mnemonic (41_addressing R141). -/

open Sys2Proof Sys2Proof.Machine Sys2Proof.Claims

namespace Sys2Proof.Completion

/-- Entries of a mnemonic without a memory operand complete with what its handler does (R141). -/
theorem impliedCompletes_of_run {m : Mnemonic} {entries : List TableEntry} {f post : State → State}
    (hrows : RowsOf m entries) (hrun : ∀ opc o s, m.run opc o s = impliedInstr opc f s)
    (hpost : ∀ s, f s = post s) : ImpliedCompletes entries post := by
  obtain rfl : f = post := funext hpost
  exact completes_of_run hrows fun i s => hrun i.opcode i.operand s

end Sys2Proof.Completion
end

section
/-! PROOF. Compares, increments and decrements (44_compare_incdec R200 to R209): the difference, the successor and the predecessor
in the numbers of the rules. -/

open Sys2Proof Sys2Proof.Machine Sys2Proof.Claims Sys2Proof.Completion

namespace Sys2Proof.CompareIncDec

/-! ### The results (R200, R204, R205). -/

/-- The difference of bytes is the one of R9, whose 256 is added before the subtraction. -/
theorem minus256_eq_sub (n m : Byte) : minus256 n m = n - m := by
  unfold minus256 mod256
  bv_omega

/-- The successor of a byte is the one of R9. -/
theorem mod256_succ (v : Byte) : mod256 ((v.toNat + 1) % 256) = v + 1 := by
  unfold mod256
  bv_omega

/-! ### The handlers. -/

/-- The compare core is R200 in exact integers. -/
theorem compareCore_eq_compared (r m : Byte) (s : State) : compareCore r m s = compared r m s := by
  rw [compared, minus256_eq_sub]
  rfl

section
variable (v : Byte) (s : State)

theorem stepInc_eq_incremented : stepInc v s = withStatus (incremented v s) s := by
  rw [incremented, mod256_succ]
  rfl

theorem stepDec_eq_decremented : stepDec v s = withStatus (decremented v s) s := by
  rw [decremented, minus256_eq_sub]
  rfl

theorem opInx_eq_loadedX : opInx s = loadedX (mod256 ((s.x.toNat + 1) % 256)) s := by
  rw [mod256_succ]
  rfl

theorem opIny_eq_loadedY : opIny s = loadedY (mod256 ((s.y.toNat + 1) % 256)) s := by
  rw [mod256_succ]
  rfl

theorem opDex_eq_loadedX : opDex s = loadedX (minus256 s.x 1) s := by
  rw [minus256_eq_sub]
  rfl

theorem opDey_eq_loadedY : opDey s = loadedY (minus256 s.y 1) s := by
  rw [minus256_eq_sub]
  rfl

end

/-! ### The mnemonics. -/

/-- Settles O27: each mnemonic runs the compare core on its own register. -/
theorem compares : Obligations.Compares :=
  ⟨readCompletes_of_run (m := .cmp) (by decide) (fun _ _ _ => rfl) fun v s =>
      compareCore_eq_compared s.a v s,
    readCompletes_of_run (m := .cpx) (by decide) (fun _ _ _ => rfl) fun v s =>
      compareCore_eq_compared s.x v s,
    readCompletes_of_run (m := .cpy) (by decide) (fun _ _ _ => rfl) fun v s =>
      compareCore_eq_compared s.y v s⟩

/-- Settles O28: INC and DEC are read-modify-writes with memory modes only, the other four have no memory operand. -/
theorem incrementsAndDecrements : Obligations.IncrementsAndDecrements :=
  ⟨rmwCompletes_of_run (m := .inc) (by decide) (by decide) (fun _ _ _ => rfl)
      stepInc_eq_incremented fun _ _ => rfl,
    rmwCompletes_of_run (m := .dec) (by decide) (by decide) (fun _ _ _ => rfl)
      stepDec_eq_decremented fun _ _ => rfl,
    impliedCompletes_of_run (m := .inx) (by decide) (fun _ _ _ => rfl) opInx_eq_loadedX,
    impliedCompletes_of_run (m := .iny) (by decide) (fun _ _ _ => rfl) opIny_eq_loadedY,
    impliedCompletes_of_run (m := .dex) (by decide) (fun _ _ _ => rfl) opDex_eq_loadedX,
    impliedCompletes_of_run (m := .dey) (by decide) (fun _ _ _ => rfl) opDey_eq_loadedY⟩

end Sys2Proof.CompareIncDec
end

section
/-! PROOF. The branches (45_branches R220 to R228): the page test in the numbers of the rule, and how a statement about a branch is
settled for a whole mnemonic. -/

open Sys2Proof Sys2Proof.Machine Sys2Proof.Claims Sys2Proof.Completion

namespace Sys2Proof.Branching

/-- Two addresses have the same high byte exactly if they are on the same page (R9). -/
theorem hi8_eq_hi8_iff (a b : Addr) : hi8 a = hi8 b ↔ a.toNat / 256 = b.toNat / 256 := by
  rw [← BitVec.toNat_inj, toNat_hi8, toNat_hi8]

/-- `Branch(cond)` with the resolved target leaves the state of R220. -/
theorem branchTo_eq_branched (cond : State → Bool) (i : Instr) (s : State) :
    branchTo (cond s) (resolve i.operand s).1.ea s = (branched cond i s).1 := by
  simp only [branchTo, branched, hi8_eq_hi8_iff]
  rfl

/-- The Relative resolver touches nothing and reports no page cross: the page test of a branch is `Branch(cond)`'s own (R152, R220). -/
theorem resolve_of_rel {o : Operand} (hrel : o.mode = .rel) (s : State) :
    (resolve o s).2 = s ∧ (resolve o s).1.crossed = false := by
  cases o
  case rel => exact ⟨rfl, rfl⟩
  all_goals cases hrel

/-- A branch instruction ends its tick in the state of R220, without a penalty. -/
theorem branchInstr_of_rel {i : Instr} (hrel : i.operand.mode = .rel) (cond : State → Bool)
    (s : State) :
    branchInstr i.opcode (cond s) i.operand s =
      endTick i.opcode (branched cond i s).2 (branched cond i s).1 := by
  obtain ⟨hstate, hcrossed⟩ := resolve_of_rel hrel s
  rw [branchInstr, hstate, hcrossed, branchTo_eq_branched]
  rfl

/-- A Relative entry of a branch mnemonic completes with what `Branch(cond)` leaves, for the mnemonic's condition. -/
theorem completes_branched {m : Mnemonic} {entries : List TableEntry} {cond : State → Bool}
    (hrows : RowsOf m entries) (hmodes : ∀ e ∈ entries, e.2.1 = .rel)
    (hrun : ∀ opc o s, m.run opc o s = branchInstr opc (cond s) o s) :
    Completes entries (branched cond) :=
  completes_of_run_in_mode (inMode := (· = .rel)) hrows hmodes fun i s hrel =>
    (hrun i.opcode i.operand s).trans (branchInstr_of_rel hrel cond s)

/-- Settles O29: each branch is `Branch(cond)` of its own flag, and its target is the Relative one. -/
theorem branches : Obligations.Branches :=
  ⟨completes_branched (m := .bcc) (by decide) (by decide) fun _ _ _ => rfl,
    completes_branched (m := .bcs) (by decide) (by decide) fun _ _ _ => rfl,
    completes_branched (m := .beq) (by decide) (by decide) fun _ _ _ => rfl,
    completes_branched (m := .bne) (by decide) (by decide) fun _ _ _ => rfl,
    completes_branched (m := .bmi) (by decide) (by decide) fun _ _ _ => rfl,
    completes_branched (m := .bpl) (by decide) (by decide) fun _ _ _ => rfl,
    completes_branched (m := .bvc) (by decide) (by decide) fun _ _ _ => rfl,
    completes_branched (m := .bvs) (by decide) (by decide) fun _ _ _ => rfl,
    fun o s => Addressing.toNat_add_sext8 s.pc o⟩

end Sys2Proof.Branching
end

section
/-! PROOF. What the stack holds after pushes (20_memory R81, R82): a push changes one byte of the stack page, so bytes pushed are
read back by name or by pulling. -/

open Sys2Proof Sys2Proof.Machine

namespace Sys2Proof.StackAccess

section
variable (v : Byte) (s : State)

/-- The byte of the stack page that `sp` names (R33). -/
theorem byteAt_stackAddr (sp : Byte) :
    byteAt s (stackAddr sp) = some (s.ram.read (0x100 + sp.toNat)) := by
  obtain ⟨hwindow, hkey⟩ := stackAddr_in_ram sp
  simp [byteAt, region_ram hwindow, hkey]

theorem push_ram : (push v s).ram = s.ram.write (0x100 + s.sp.toNat) v := by
  rw [push_eq]

theorem wf_ram_push (hw : s.ram.wf = true) : (push v s).ram.wf = true := by
  rw [push_ram]
  exact Memory.wf_write _ _ _ hw

/-- A push leaves its byte where SP pointed (R81). -/
theorem read_push_same (hw : s.ram.wf = true) :
    (push v s).ram.read (0x100 + s.sp.toNat) = v := by
  rw [push_ram, Memory.read_write_same _ _ _ hw]

/-- A push leaves every other byte of the stack page alone. -/
theorem read_push_other {sp : Byte} (hsp : sp ≠ s.sp) :
    (push v s).ram.read (0x100 + sp.toNat) = s.ram.read (0x100 + sp.toNat) := by
  rw [push_ram]
  refine Memory.read_write_other _ _ _ _ fun hkey => hsp (BitVec.eq_of_toNat_eq ?_)
  omega

/-- From the RAM and SP that two pushes left, two pulls give the two bytes back, the last one first, and SP is as before. -/
theorem pull_pull_of_push_push {u : State} (w : Byte) (hw : s.ram.wf = true)
    (hram : u.ram = (push w (push v s)).ram) (hsp : u.sp = (push w (push v s)).sp) :
    (pull u).1 = w ∧ (pull (pull u).2).1 = v ∧ (pull (pull u).2).2.sp = s.sp := by
  have hfirst : u.sp + 1 = (push v s).sp := by
    rw [hsp, push_sp, BitVec.sub_add_cancel]
  have hsecond : u.sp + 1 + 1 = s.sp := by
    rw [hfirst, push_sp, BitVec.sub_add_cancel]
  have hother : s.sp ≠ (push v s).sp := by
    rw [push_sp]
    bv_omega
  refine ⟨?_, ?_, by rw [pull_sp, pull_sp, hsecond]⟩
  · rw [pull_eq, hram, hfirst, read_push_same _ _ (wf_ram_push v s hw)]
  · rw [pull_eq, pull_ram, pull_sp, hram, hsecond, read_push_other _ _ hother, read_push_same _ _ hw]

end

end Sys2Proof.StackAccess
end

section
/-! PROOF. Stack and control transfer (46_stack_control R240 to R250): the restored status, the two return addresses and the BRK
vector in the numbers of the rules, and that a return finds what its call pushed. -/

open Sys2Proof Sys2Proof.Machine Sys2Proof.Claims Sys2Proof.Completion

namespace Sys2Proof.StackControl

/-! ### The pulled status and the pulled PC (R241, R247). -/

/-- `Restore(v)` is R241, whichever way `plpBreak` treats B. -/
theorem restoreStatus_eq_restored (params : Params) (old : Status) (v : Byte) :
    restoreStatus params.plpBreak old v = restored params old v := by
  have hbreak : restoredBreak params.plpBreak old v = (restored params old v).b := by
    rw [restored]
    cases params.plpBreak <;> rfl
  rw [restoreStatus, hbreak]
  rfl

/-- The word after a pulled one, mod 65536 (R9, R247). -/
theorem w16_add_one (h l : Byte) :
    w16 h l + 1 = BitVec.ofNat 16 ((h.toNat * 256 + l.toNat + 1) % 65536) := by
  apply BitVec.eq_of_toNat_eq
  rw [BitVec.toNat_add, toNat_w16, BitVec.toNat_ofNat, Nat.mod_mod]
  rfl

section
variable (s : State)

theorem opPlp_eq :
    opPlp s = { (pull s).2 with p := restored s.params s.p (pull s).1 } := by
  rw [opPlp, restoreStatus_eq_restored]
  rfl

theorem opRts_eq :
    opRts s = { (pull (pull s).2).2 with
      pc := BitVec.ofNat 16 (((pull (pull s).2).1.toNat * 256 + (pull s).1.toNat + 1) % 65536) } := by
  rw [opRts, w16_add_one]
  rfl

/-- The status is restored before PC is pulled, and a pull does not look at it (R248). -/
theorem returnFromTrap_eq :
    returnFromTrap s = { (pull (pull (pull s).2).2).2 with
      p := restored s.params s.p (pull s).1
      pc := BitVec.ofNat 16 ((pull (pull (pull s).2).2).1.toNat * 256 + (pull (pull s).2).1.toNat) } := by
  rw [returnFromTrap, restoreStatus_eq_restored]
  simp only [StackAccess.pull_eq, State.setP, State.setPc, w16]

/-! ### BRK (R249). -/

/-- The BRK vector lies in the cartridge window, so reading it has no effect (R76, R84). -/
theorem read16_brkVector :
    read16 brkVector s =
      (BitVec.ofNat 16 ((s.cart.prgRom.read (0xFFFF % (16384 * s.cart.prgUnits))).toNat * 256 +
        (s.cart.prgRom.read (0xFFFE % (16384 * s.cart.prgUnits))).toNat), s) := by
  have hlow := BusWindows.memRead_cartridge_window (a := brkVector) s (by decide)
  have hhigh := BusWindows.memRead_cartridge_window (a := brkVector + 1) s (by decide)
  rw [read16, hlow, hhigh]
  rfl

/-- The state in which BRK has pushed PC + 1 and the push image of P. -/
def trapPushed : State :=
  push (pushImage s.p) (push (lo8 (s.pc + 1)) (push (hi8 (s.pc + 1)) s))

theorem takeTrap_eq :
    takeTrap s = { trapPushed s with
      p := { s.p with i := true }
      pc := BitVec.ofNat 16 ((s.cart.prgRom.read (0xFFFF % (16384 * s.cart.prgUnits))).toNat * 256 +
        (s.cart.prgRom.read (0xFFFE % (16384 * s.cart.prgUnits))).toNat) } := by
  rw [takeTrap, read16_brkVector]
  simp [trapPushed, State.setI, State.setP, State.setPc]

theorem takeTrap_sp : (takeTrap s).sp = minus256 s.sp 3 := by
  rw [takeTrap_eq, CompareIncDec.minus256_eq_sub]
  simp only [trapPushed, push_sp]
  bv_omega

/-- The third byte BRK pushes is the push image of the P before it (R240). -/
theorem byteAt_takeTrap_status (hw : s.ram.wf = true) :
    byteAt (takeTrap s) (stackAddr (s.sp - 2)) = some (pushImage s.p) := by
  have hsp : s.sp - 2 = (push (lo8 (s.pc + 1)) (push (hi8 (s.pc + 1)) s)).sp := by
    simp only [push_sp]
    bv_omega
  have hwf := StackAccess.wf_ram_push (lo8 (s.pc + 1)) _ (StackAccess.wf_ram_push (hi8 (s.pc + 1)) s hw)
  rw [StackAccess.byteAt_stackAddr, takeTrap_eq, hsp]
  exact congrArg some (StackAccess.read_push_same _ _ hwf)

end

theorem exec_brk (s : State) : exec .brk s = endTick 0x00 false (takeTrap s) := rfl

/-! ### JMP, JSR and RTS (R246, R247, R250). -/

/-- Absolute mode names its operand and touches nothing (R146). -/
theorem resolve_of_abs {o : Operand} (habs : o.mode = .abs) (s : State) :
    resolve o s = (direct o.word, s) := by
  cases o
  case abs => rfl
  all_goals cases habs

/-- Indirect mode has no index, so it reports no page cross (R140, R149). -/
theorem crossed_of_ind {o : Operand} (hind : o.mode = .ind) (s : State) :
    (resolve o s).1.crossed = false := by
  cases o
  case ind => rfl
  all_goals cases hind

/-- The state JSR to `w` leaves: PC - 1 pushed, high byte first (R246). -/
def called (w : Addr) (s : State) : State :=
  { push (lo8 (s.pc - 1)) (push (hi8 (s.pc - 1)) s) with pc := w }

theorem jsrInstr_of_abs {o : Operand} (habs : o.mode = .abs) (opc : Byte) (s : State) :
    jsrInstr opc o s = endTick opc false (called o.word s) := by
  rw [jsrInstr, resolve_of_abs habs]
  rfl

/-- RTS finds the return address JSR pushed (R246, R247). -/
theorem opRts_of_called {s u : State} {w : Addr} (hw : s.ram.wf = true)
    (hram : u.ram = (called w s).ram) (hsp : u.sp = (called w s).sp) :
    (opRts u).pc = s.pc ∧ (opRts u).sp = s.sp := by
  obtain ⟨hlow, hhigh, hdone⟩ := StackAccess.pull_pull_of_push_push _ s _ hw hram hsp
  refine ⟨?_, hdone⟩
  rw [opRts, hlow, hhigh, w16_hi8_lo8, BitVec.sub_add_cancel]
  rfl

/-! ### The mnemonics. -/

/-- Settles O32: PLA loads A with the pulled byte, PLP restores P from it. -/
theorem pulls : Obligations.Pulls :=
  ⟨impliedCompletes_of_run (m := .pla) (by decide) (fun _ _ _ => rfl) fun _ => rfl,
    impliedCompletes_of_run (m := .plp) (by decide) (fun _ _ _ => rfl) opPlp_eq⟩

/-- Settles O34: BRK is the trap entry, and its vector is read from program ROM. -/
theorem trapEntry : Obligations.TrapEntry := by
  refine ⟨impliedCompletes_of_run (m := .brk) (by decide) (fun _ _ _ => rfl) takeTrap_eq,
    fun s t h => ?_⟩
  rw [exec_brk] at h
  cases h
  exact takeTrap_sp s

/-- Settles O58: RTS pulls the bytes JSR pushed, and the - 1 and the + 1 cancel. -/
theorem callThenReturnResumes : Obligations.CallThenReturnResumes := by
  intro s w hw
  refine ⟨_, rfl, rfl, fun u hram hsp => ?_⟩
  obtain ⟨hpc, hdone⟩ := opRts_of_called (w := w) hw hram hsp
  exact ⟨_, rfl, hpc, hdone⟩

/-- Settles O30: PHA and PHP are one push, and BRK's third push is that of PHP. -/
theorem pushes : Obligations.Pushes :=
  ⟨impliedCompletes_of_run (m := .pha) (by decide) (fun _ _ _ => rfl) fun _ => rfl,
    impliedCompletes_of_run (m := .php) (by decide) (fun _ _ _ => rfl) fun _ => rfl,
    fun _ => rfl,
    fun s hw => ⟨_, rfl, (MemoryFrame.byteAt_endTick (exec_brk s).symm).trans
      (byteAt_takeTrap_status s hw)⟩⟩

/-- Settles O33: JSR has Absolute mode only, and RTS adds 1 to the word it pulls. -/
theorem subroutineCallAndReturn : Obligations.SubroutineCallAndReturn :=
  ⟨completes_of_run_in_mode (m := .jsr) (inMode := (· = .abs)) (by decide) (by decide)
      fun i s habs => jsrInstr_of_abs habs i.opcode s,
    impliedCompletes_of_run (m := .rts) (by decide) (fun _ _ _ => rfl) opRts_eq⟩

/-- Settles O35: RTI is the trap return. -/
theorem trapReturn : Obligations.TrapReturn :=
  impliedCompletes_of_run (m := .rti) (by decide) (fun _ _ _ => rfl) returnFromTrap_eq

/-- Settles O36: JMP goes where its operand resolves to, through a pointer by the two bytes found there. -/
theorem jumps : Obligations.Jumps := by
  refine ⟨completes_of_run_in_mode (m := .jmp) (inMode := (· = .abs)) (by decide) (by decide)
      fun i s habs => ?_,
    completes_of_run_in_mode (m := .jmp) (inMode := (· = .ind)) (by decide) (by decide)
      fun i s hind => ?_,
    fun p q lo hi s hq hlo hhi => ?_⟩
  · rw [Mnemonic.run, jmpInstr, resolve_of_abs habs]
    rfl
  · rw [Mnemonic.run, jmpInstr, crossed_of_ind hind]
    rfl
  · have htarget := Addressing.resolve_ind s hq
    rw [memRead_of_byteAt hlo, memRead_of_byteAt hhi] at htarget
    exact ⟨_, Addressing.exec_jmpInd htarget, toNat_w16 hi lo⟩

end Sys2Proof.StackControl
end

section
/-! PROOF. Transfers, loads, stores and flag instructions (47_transfer_load_store R260 to R271, 48_flags_nop R280 to R286,
49_undocumented R306, R307, R311): each mnemonic runs one handler, which is the statement's update by definition. -/

open Sys2Proof Sys2Proof.Machine Sys2Proof.Claims

namespace Sys2Proof.Completion

/-- Entries of a store mnemonic complete with one write of its value (R155). -/
theorem storeCompletes_of_run {m : Mnemonic} {entries : List TableEntry} {value : State → Byte}
    (hrows : RowsOf m entries) (hrun : ∀ opc o s, m.run opc o s = storeInstr opc value o s) :
    StoreCompletes entries value :=
  completes_of_run hrows fun i s => hrun i.opcode i.operand s

end Sys2Proof.Completion

open Sys2Proof.Completion

namespace Sys2Proof.TransferLoadStore

/-- Settles O37: the destination and its N and Z by definition; TXS sets SP alone. -/
theorem transfers : Obligations.Transfers :=
  ⟨impliedCompletes_of_run (m := .tax) (by decide) (fun _ _ _ => rfl) fun _ => rfl,
    impliedCompletes_of_run (m := .tay) (by decide) (fun _ _ _ => rfl) fun _ => rfl,
    impliedCompletes_of_run (m := .txa) (by decide) (fun _ _ _ => rfl) fun _ => rfl,
    impliedCompletes_of_run (m := .tya) (by decide) (fun _ _ _ => rfl) fun _ => rfl,
    impliedCompletes_of_run (m := .tsx) (by decide) (fun _ _ _ => rfl) fun _ => rfl,
    impliedCompletes_of_run (m := .txs) (by decide) (fun _ _ _ => rfl) fun _ => rfl⟩

/-- Settles O38: the registers loaded and their N and Z by definition. -/
theorem loads : Obligations.Loads :=
  ⟨readCompletes_of_run (m := .lda) (by decide) (fun _ _ _ => rfl) fun _ _ => rfl,
    readCompletes_of_run (m := .ldx) (by decide) (fun _ _ _ => rfl) fun _ _ => rfl,
    readCompletes_of_run (m := .ldy) (by decide) (fun _ _ _ => rfl) fun _ _ => rfl,
    readCompletes_of_run (m := .lax) (by decide) (fun _ _ _ => rfl) fun _ _ => rfl,
    readCompletes_of_run (m := .las) (by decide) (fun _ _ _ => rfl) fun _ _ => rfl⟩

/-- Settles O39: each store mnemonic is one write of its own value. -/
theorem stores : Obligations.Stores :=
  ⟨storeCompletes_of_run (m := .sta) (by decide) fun _ _ _ => rfl,
    storeCompletes_of_run (m := .stx) (by decide) fun _ _ _ => rfl,
    storeCompletes_of_run (m := .sty) (by decide) fun _ _ _ => rfl,
    storeCompletes_of_run (m := .sax) (by decide) fun _ _ _ => rfl⟩

/-- Settles O40: each mnemonic updates its one flag by definition. -/
theorem flagInstructions : Obligations.FlagInstructions :=
  ⟨impliedCompletes_of_run (m := .clc) (by decide) (fun _ _ _ => rfl) fun _ => rfl,
    impliedCompletes_of_run (m := .sec) (by decide) (fun _ _ _ => rfl) fun _ => rfl,
    impliedCompletes_of_run (m := .cli) (by decide) (fun _ _ _ => rfl) fun _ => rfl,
    impliedCompletes_of_run (m := .sei) (by decide) (fun _ _ _ => rfl) fun _ => rfl,
    impliedCompletes_of_run (m := .cld) (by decide) (fun _ _ _ => rfl) fun _ => rfl,
    impliedCompletes_of_run (m := .sed) (by decide) (fun _ _ _ => rfl) fun _ => rfl,
    impliedCompletes_of_run (m := .clv) (by decide) (fun _ _ _ => rfl) fun _ => rfl⟩

end Sys2Proof.TransferLoadStore
end

section
/-! PROOF. NOP (48_flags_nop R287): the forms without a memory operand leave the state of the fetch, and none of the others reads a
pointer, so the data read is all that can happen. -/

open Sys2Proof Sys2Proof.Machine Sys2Proof.Claims Sys2Proof.Completion

namespace Sys2Proof.NoOperation

section
variable {o : Operand} (opc : Byte) (s : State)

/-- A NOP without a memory operand ends its tick in the state it found (R287). -/
theorem nopInstr_of_no_memory (ho : o.mode ∈ [Mode.imp, Mode.imm]) :
    nopInstr opc o s = endTick opc false s := by
  cases o
  case imp | imm => rfl
  all_goals exact absurd ho (by simp [Operand.mode])

/-- A NOP with a memory operand reads it if `nopReadsOperand`, and its resolver touches nothing (R287). -/
theorem nopInstr_of_memory (ho : o.mode ∈ [Mode.zp, Mode.zpx, Mode.abs, Mode.absx]) :
    nopInstr opc o s = endTick opc (resolve o s).1.crossed
      (if s.params.nopReadsOperand = true then (memRead (resolve o s).1.ea s).2 else s) := by
  cases o
  case zp | zpx | abs | absx => rfl
  all_goals exact absurd ho (by simp [Operand.mode])

end

/-- Settles O41: the forms without and those with a memory operand. -/
theorem noOperations : Obligations.NoOperations :=
  ⟨completes_of_run_in_mode (m := .nop) (inMode := (· ∈ [Mode.imp, Mode.imm])) (by decide) (by decide)
      fun i s => nopInstr_of_no_memory i.opcode s,
    completes_of_run_in_mode (m := .nop) (inMode := (· ∈ [Mode.zp, Mode.zpx, Mode.abs, Mode.absx]))
      (by decide) (by decide) fun i s => nopInstr_of_memory i.opcode s⟩

end Sys2Proof.NoOperation
end

section
/-! PROOF. The undocumented opcodes but JAM (49_undocumented R300 to R322): the immediate combinations in the numbers of the rules, the
combined read-modify-writes as the two documented micro-operations they are made of, and `SHxStore`. -/

open Sys2Proof Sys2Proof.Machine Sys2Proof.Claims Sys2Proof.Completion

namespace Sys2Proof.Undocumented

/-! ### The immediate combinations (R301, R303, R312). -/

section
variable (m : Byte) (s : State)

/-- ALR is the LSR of `A AND M` (R301). -/
theorem opAlr_eq_shiftedRight : opAlr m s =
    { s with a := (shiftedRight (s.a &&& m) s).1, p := (shiftedRight (s.a &&& m) s).2 } := by
  rw [opAlr, ShiftRotate.shiftRight_eq]
  rfl

/-- ARR is the ROR of `A AND M`, with C and V from its result (R303). -/
theorem opArr_eq_rotatedRight : opArr m s =
    let r := (rotatedRight (s.a &&& m) s).1
    { s with
      a := r
      p := { withNZ r s.p with c := r.getLsbD 6, v := r.getLsbD 6 != r.getLsbD 5 } } := by
  rw [opArr, ShiftRotate.rotateRight_eq]
  rfl

/-- SBX is the compare of `A AND X` with M that keeps the difference (R312). -/
theorem opSbx_eq_compared : opSbx m s = { compared (s.a &&& s.x) m s with x := minus256 (s.a &&& s.x) m } := by
  rw [compared, CompareIncDec.minus256_eq_sub]
  rfl

end

/-- Settles O42: three handlers compute the statement's number, and three are its update by definition. -/
theorem immediateCombinations : Obligations.ImmediateCombinations :=
  ⟨readCompletes_of_run (m := .alr) (by decide) (fun _ _ _ => rfl) opAlr_eq_shiftedRight,
    readCompletes_of_run (m := .anc) (by decide) (fun _ _ _ => rfl) fun _ _ => rfl,
    readCompletes_of_run (m := .arr) (by decide) (fun _ _ _ => rfl) opArr_eq_rotatedRight,
    readCompletes_of_run (m := .sbx) (by decide) (fun _ _ _ => rfl) opSbx_eq_compared,
    readCompletes_of_run (m := .ane) (by decide) (fun _ _ _ => rfl) fun _ _ => rfl,
    readCompletes_of_run (m := .lxa) (by decide) (fun _ _ _ => rfl) fun _ _ => rfl⟩

/-! ### The combined read-modify-writes (R304, R305, R309, R310, R316, R317). -/

/-- Settles O43: the micro-operations of each mnemonic are those of two documented ones. -/
theorem combinedReadModifyWrites : Obligations.CombinedReadModifyWrites :=
  ⟨rmwCompletes_of_run (m := .dcp) (by decide) (by decide) (fun _ _ _ => rfl)
      CompareIncDec.stepDec_eq_decremented fun v s => CompareIncDec.compareCore_eq_compared s.a v s,
    rmwCompletes_of_run (m := .isc) (by decide) (by decide) (fun _ _ _ => rfl)
      CompareIncDec.stepInc_eq_incremented ArithLogic.opSbc_eq_added,
    rmwCompletes_of_run (m := .rla) (by decide) (by decide) (fun _ _ _ => rfl)
      ShiftRotate.stepRol_eq_rotatedLeft fun _ _ => rfl,
    rmwCompletes_of_run (m := .rra) (by decide) (by decide) (fun _ _ _ => rfl)
      ShiftRotate.stepRor_eq_rotatedRight ArithLogic.addCore_eq_added,
    rmwCompletes_of_run (m := .slo) (by decide) (by decide) (fun _ _ _ => rfl)
      ShiftRotate.stepAsl_eq_shiftedLeft fun _ _ => rfl,
    rmwCompletes_of_run (m := .sre) (by decide) (by decide) (fun _ _ _ => rfl)
      ShiftRotate.stepLsr_eq_shiftedRight fun _ _ => rfl⟩

/-! ### SHA, SHX, SHY and TAS (R313, R314, R315, R318, R322). -/

/-- `H+1` is one more than the high byte of the unindexed base, mod 256 (R322). -/
theorem highPlusOne_eq (r : Resolved) :
    highPlusOne r = mod256 ((r.base.toNat / 256 + 1) % 256) := by
  rw [highPlusOne, ← toNat_hi8, CompareIncDec.mod256_succ]

/-- `SHxStore` writes the value of R322 where R322 says. -/
theorem shxStore_eq_shStored (v0 : Byte) (r : Resolved) (s : State) :
    shxStore v0 r s = shStored v0 r s := by
  simp only [shxStore, shStored, shxAddress, highPlusOne_eq, Bool.and_eq_true, w16, toNat_lo8]

/-- Entries of a mnemonic that ends in `SHxStore` complete with its store.  What the mnemonic does first (`post`) and the value
it starts from (`v0`) are in terms of the registers before the resolver, which leaves them alone. -/
theorem shCompletes_of_run {m : Mnemonic} {entries : List TableEntry} {first : State → State}
    {post : State → State → State} {value v0 : State → Byte} (hrows : RowsOf m entries)
    (hrun : ∀ opc o s, m.run opc o s = shxInstr opc first value o s)
    (hfirst : ∀ o s, first (resolve o s).2 = post s (resolve o s).2)
    (hvalue : ∀ o s, value (first (resolve o s).2) = v0 s) :
    Completes entries fun i s =>
      let r := resolve i.operand s
      (shStored (v0 s) r.1 (post s r.2), r.1.crossed) :=
  completes_of_run hrows fun i s => by
    rw [hrun, shxInstr, hvalue, hfirst, shxStore_eq_shStored]

/-- Settles O44: TAS writes SP first, and each mnemonic starts from its own registers. -/
theorem highByteStores : Obligations.HighByteStores :=
  ⟨shCompletes_of_run (m := .sha) (post := fun _ t => t) (by decide) (fun _ _ _ => rfl)
      (fun _ _ => rfl) (by simp [shaValue, keepSp]),
    shCompletes_of_run (m := .shx) (post := fun _ t => t) (by decide) (fun _ _ _ => rfl)
      (fun _ _ => rfl) (by simp [keepSp]),
    shCompletes_of_run (m := .shy) (post := fun _ t => t) (by decide) (fun _ _ _ => rfl)
      (fun _ _ => rfl) (by simp [keepSp]),
    shCompletes_of_run (m := .tas) (post := fun s t => { t with sp := s.a &&& s.x }) (by decide)
      (fun _ _ _ => rfl) (by simp [tasSp, State.setSp]) (by simp [tasSp])⟩

end Sys2Proof.Undocumented
end

section
/-! PROOF. JAM (49_undocumented R321, 40_dispatch R121): the twelve opcodes share one row of the Instruction Table, and the tick
after a JAM does not exist. -/

open Sys2Proof Sys2Proof.Machine

namespace Sys2Proof.TickOutcome

/-- A jammed core ticks into no state (R121). -/
theorem step_ne_next_of_jammed {s : State} (hj : s.jammed = true) (t : State) : step s ≠ .next t := by
  rw [jammedCoreHasNoStep s hj]
  exact nofun

end Sys2Proof.TickOutcome

namespace Sys2Proof.Jam

/-- The row of a JAM: its cycles are the parameter `jamCycles` (R110, R129). -/
def jamRow : Descriptor := ⟨.jam, .imp, .jam, false⟩

/-- Every JAM opcode has that row of the Instruction Table (R110). -/
theorem descriptorOf_jam : ∀ opc ∈
    ([0x02, 0x12, 0x22, 0x32, 0x42, 0x52, 0x62, 0x72, 0x92, 0xB2, 0xD2, 0xF2] : List Byte),
    descriptorOf opc = jamRow := by
  decide

/-- The tick of a JAM returns `jamCycles` (R126, R129). -/
theorem endTick_of_jam {opc : Byte} (hrow : descriptorOf opc = jamRow) (s : State) :
    endTick opc false s = .next (s.setTickCycles (s.params.jamCycles + s.extra)) := by
  simp [endTick, cycleCount, hrow, jamRow, baseCount]

/-- Settles O45: the row of the opcode byte makes it a JAM, whose handler sets the flag. -/
theorem jamLocksUp : Obligations.JamLocksUp := by
  refine ⟨fun i s hopc => ?_, fun s t hj => TickOutcome.step_ne_next_of_jammed hj t⟩
  have hrow := descriptorOf_jam i.opcode hopc
  have hmnemonic := i.descriptor_mnemonic
  have hmode := i.descriptor_mode
  rw [hrow] at hmnemonic hmode
  refine ⟨hmode.symm, ?_⟩
  rw [exec_eq_run, ← hmnemonic]
  exact endTick_of_jam hrow (opJam s)

end Sys2Proof.Jam
end

section
/-! PROOF. RTI after BRK (60_exceptions R346, R347): three pulls find the three bytes BRK pushed, and restoring the push image of P
gives P back but for U and B. -/

open Sys2Proof Sys2Proof.Machine Sys2Proof.Claims

namespace Sys2Proof.StackAccess

/-- From the RAM and SP that three pushes left, three pulls give the three bytes back, the last one first, and SP is as before. -/
theorem pull_pull_pull_of_push_push_push (v w x : Byte) {s u : State} (hw : s.ram.wf = true)
    (hram : u.ram = (push x (push w (push v s))).ram)
    (hsp : u.sp = (push x (push w (push v s))).sp) :
    (pull u).1 = x ∧ (pull (pull u).2).1 = w ∧ (pull (pull (pull u).2).2).1 = v ∧
      (pull (pull (pull u).2).2).2.sp = s.sp := by
  obtain ⟨hfirst, hsecond, hleft⟩ :=
    pull_pull_of_push_push w (push v s) x (wf_ram_push v s hw) hram hsp
  have hthird : (pull (pull u).2).2.sp + 1 = s.sp := by
    rw [hleft, push_sp, BitVec.sub_add_cancel]
  have hother_w : s.sp ≠ (push v s).sp := by
    rw [push_sp]
    bv_omega
  have hother_x : s.sp ≠ (push w (push v s)).sp := by
    rw [push_sp, push_sp]
    bv_omega
  refine ⟨hfirst, hsecond, ?_, by rw [pull_sp, hthird]⟩
  rw [pull_eq, pull_ram, pull_ram, hram, hthird, read_push_other _ _ hother_x,
    read_push_other _ _ hother_w, read_push_same _ _ hw]

end Sys2Proof.StackAccess

namespace Sys2Proof.StackControl

/-- Restoring a push image gives the status back, with U set and B as `plpBreak` says (R240, R241). -/
theorem restored_pushImage (params : Params) (old p : Status) :
    restored params old (pushImage p) = { p with
      u := true
      b := if params.plpBreak = .fromStack then true
        else if params.plpBreak = .keep then old.b else false } := by
  have hbreak : restoredBreak params.plpBreak old (pushImage p) =
      if params.plpBreak = .fromStack then true
        else if params.plpBreak = .keep then old.b else false := by
    cases params.plpBreak
    case fromStack => exact congrArg Status.b (StatusByte.unpack_pushImage p)
    case keep | clear => rfl
  rw [← restoreStatus_eq_restored, restoreStatus, StatusByte.unpack_pushImage, hbreak]

/-- RTI finds the status and the return address BRK pushed (R347). -/
theorem returnFromTrap_of_takeTrap {s u : State} (hw : s.ram.wf = true)
    (hram : u.ram = (takeTrap s).ram) (hsp : u.sp = (takeTrap s).sp) :
    (returnFromTrap u).pc = s.pc + 1 ∧ (returnFromTrap u).sp = s.sp ∧
      (returnFromTrap u).p = restored u.params u.p (pushImage s.p) := by
  rw [takeTrap_eq] at hram hsp
  obtain ⟨hstatus, hlow, hhigh, hdone⟩ :=
    StackAccess.pull_pull_pull_of_push_push_push _ _ _ hw hram hsp
  rw [returnFromTrap_eq, hstatus, hlow, hhigh]
  exact ⟨w16_hi8_lo8 (s.pc + 1), hdone, rfl⟩

/-- Settles O57: RTI pulls the bytes BRK pushed, and the status byte restores P. -/
theorem trapThenReturnResumes : Obligations.TrapThenReturnResumes := by
  intro s hw
  refine ⟨_, rfl, fun u hram hsp hparams => ?_⟩
  obtain ⟨hpc, hdone, hp⟩ := returnFromTrap_of_takeTrap hw hram hsp
  rw [restored_pushImage, hparams] at hp
  exact ⟨(returnFromTrap u).setTickCycles _, rfl, (State.setTickCycles_pc _ _).trans hpc,
    (State.setTickCycles_sp _ _).trans hdone, (State.setTickCycles_p _ _).trans hp⟩

end Sys2Proof.StackControl
end

section
/-! PROOF. Init and reset (70_reset_and_hazards R370 to R378): a cartridge that loads is well-formed, power-on puts RAM in the
canonical form, and reset() is the three writes of R376, which keep both. -/

open Sys2Proof Sys2Proof.Machine

namespace Sys2Proof.InitReset

/-! ### reset() (R376 to R378). -/

/-- The reset vector lies in the cartridge window, so reading it has no effect (R76, R84). -/
theorem read16_resetVector (s : State) :
    read16 resetVector s =
      (BitVec.ofNat 16 ((s.cart.prgRom.read (0xFFFD % (16384 * s.cart.prgUnits))).toNat * 256 +
        (s.cart.prgRom.read (0xFFFC % (16384 * s.cart.prgUnits))).toNat), s) := by
  have hlow := BusWindows.memRead_cartridge_window (a := resetVector) s (by decide)
  have hhigh := BusWindows.memRead_cartridge_window (a := resetVector + 1) s (by decide)
  rw [read16, hlow, hhigh]
  rfl

theorem applyReset_eq (s : State) : applyReset s = { s with
    sp := 0xFD
    p := Status.unpack 0x24
    pc := BitVec.ofNat 16 ((s.cart.prgRom.read (0xFFFD % (16384 * s.cart.prgUnits))).toNat * 256 +
      (s.cart.prgRom.read (0xFFFC % (16384 * s.cart.prgUnits))).toNat) } := by
  rw [applyReset, read16_resetVector]
  rfl

/-- A loaded machine satisfies the invariant after reset(), which sets U and keeps RAM and the cartridge. -/
theorem inv_applyReset {s : State} (h : s.Loaded) : (applyReset s).Inv := by
  rw [applyReset_eq]
  exact ⟨h, rfl⟩

/-- Settles O55: the three writes, none of which is of `jammed`. -/
theorem resetEffect : Obligations.ResetEffect := by
  refine ⟨applyReset_eq, fun s t hj => TickOutcome.step_ne_next_of_jammed ?_ t⟩
  rw [applyReset_eq]
  exact hj

/-! ### Power-on and the load (R370, R375). -/

/-- An image cut from a file is canonical and within its size (R373). -/
theorem image_wf_below (file : List Byte) (start n : Nat) :
    (Memory.ofBytesFrom 0 (slice file start n)).wf = true ∧
      (Memory.ofBytesFrom 0 (slice file start n)).below n = true := by
  have hlength : 0 + (slice file start n).length ≤ n := by
    rw [Nat.zero_add]
    exact List.length_take_le n _
  exact ⟨Memory.wf_ofBytesFrom _ 0, Memory.below_ofBytesFrom _ 0 n hlength⟩

/-- The cartridge of a file with no load failure is well-formed (R48, R374). -/
theorem wellFormed_cartridgeOf {file : List Byte} (h : loadFailure file = none) :
    (cartridgeOf file).WellFormed := by
  obtain ⟨-, -, hunits, hmapper, -⟩ := (CartridgeLoad.loadFailure_eq_none_iff file).mp h
  have hpos : 1 ≤ (headerOf file).prgUnits.toNat :=
    Nat.pos_of_ne_zero fun hzero => hunits (BitVec.eq_of_toNat_eq hzero)
  obtain ⟨hprg, hprg_below⟩ := image_wf_below file (headerOf file).prgOffset (headerOf file).prgLength
  obtain ⟨hchr, hchr_below⟩ := image_wf_below file
    ((headerOf file).prgOffset + (headerOf file).prgLength) (headerOf file).chrLength
  exact ⟨hpos, hprg, hprg_below, hchr, hchr_below, hmapper⟩

section
variable (params : Params) (po : PowerOn)

/-- A well-formed cartridge makes a loaded machine, for RAM takes 2048 bytes at most (log 8). -/
theorem loaded_powerOnState {cart : Cartridge} (h : cart.WellFormed) :
    (powerOnState params po cart).Loaded := by
  have hlength : 0 + (po.ram.take 2048).length ≤ 2048 := by
    rw [Nat.zero_add]
    exact List.length_take_le 2048 _
  exact ⟨Memory.wf_ofBytesFrom _ 0, Memory.below_ofBytesFrom _ 0 2048 hlength, h⟩

/-- RAM holds the bytes `powerOn` gives (R375). -/
theorem byteAt_powerOnState (cart : Cartridge) {k : Nat} {b : Byte} (hk : k < 2048)
    (hb : po.ram[k]? = some b) :
    byteAt (powerOnState params po cart) (BitVec.ofNat 16 k) = some b := by
  have hwindow : (BitVec.ofNat 16 k).toNat < 0x2000 := by
    rw [BitVec.toNat_ofNat]
    omega
  have hkey : ((BitVec.ofNat 16 k).setWidth 11).toNat = k := by
    rw [BitVec.toNat_setWidth, BitVec.toNat_ofNat]
    omega
  have hread : (powerOnState params po cart).ram.read k = b := by
    rw [powerOnState, Memory.read_ofBytesFrom _ _ _ k.zero_le, Nat.sub_zero,
      List.getElem?_take_of_lt hk, hb]
    rfl
  simp only [byteAt, region_ram hwindow, hkey, hread]

end

/-- Settles O54: the power-on values by definition, and reset() makes the invariant of a loaded machine. -/
theorem initThenResetHasInvariant : Obligations.InitThenResetHasInvariant := by
  intro params po file s h
  obtain ⟨hnone, rfl⟩ := CartridgeLoad.init_eq_ok_iff.mp h
  have hloaded := loaded_powerOnState params po (wellFormed_cartridgeOf hnone)
  exact ⟨rfl, rfl, rfl, rfl, rfl, StatusByte.pack_unpack po.p,
    fun _ _ hk hb => byteAt_powerOnState params po _ hk hb,
    hloaded, rfl, rfl, rfl, inv_applyReset hloaded⟩

/-- The reset state is reset() of the power-on machine on the blank cartridge, whose vector reads 0000 (logs 2, 3, 4). -/
theorem reset_eq_applyReset :
    State.reset = applyReset (powerOnState Config.defaultParams ⟨0, 0, 0, 0, 0, 0, []⟩ Cartridge.blank) := by
  rw [applyReset_eq]
  rfl

/-- Settles O53: the blank cartridge is well-formed, so the reset of its machine has the invariant. -/
theorem resetHasInvariant : Obligations.ResetHasInvariant := by
  refine ⟨?_, reset_eq_applyReset⟩
  rw [reset_eq_applyReset]
  exact inv_applyReset (loaded_powerOnState _ _ (by decide))

end Sys2Proof.InitReset
end

section
/-! PROOF. The driver (60_exceptions R352 to R354, 70_reset_and_hazards R379): its trace record samples the byte at PC. -/

open Sys2Proof Sys2Proof.Machine

namespace Sys2Proof.DriverTick

/-- What a bus read answers does not depend on the cycles counted so far. -/
theorem memRead_setExtra (a : Addr) (n : Nat) (s : State) :
    (memRead a (s.setExtra n)).1 = (memRead a s).1 := by
  unfold memRead
  cases region a <;> rfl

/-- The opcode of a trace record is the byte the bus reads at PC before the tick (R354). -/
theorem traceRecord_opcode (s : State) (cyc : Nat) :
    (traceRecord s cyc).opcode = (memRead s.pc s).1 :=
  memRead_setExtra s.pc 0 s

/-- A driver tick runs the step, counts its cycles and records what it sampled before (R352 to R354). -/
theorem tick_of_step {d : Driver} {t : State} (h : step d.machine = .next t) :
    d.tick = .next
      { machine := t
        cyc := d.cyc + t.tickCycles
        ppuTicks := d.ppuTicks + 3 * t.tickCycles
        apuTicks := d.apuTicks + t.tickCycles
        trace := d.trace ++ [traceRecord d.machine d.cyc] } := by
  rw [Driver.tick, h]

/-- Settles O60: the tick as its step says, and the reset by definition. -/
theorem driverCountsCycles : Obligations.DriverCountsCycles :=
  ⟨fun d _ h => ⟨(traceRecord d.machine d.cyc).opcode, traceRecord_opcode _ _, tick_of_step h⟩,
    fun _ => rfl⟩

end Sys2Proof.DriverTick
end
